-- ==== Sys2Proof/Word.lean ====
section
/-! DEFINITION. The word types of the span line: a byte, a 16-bit field. -/

namespace Sys2Proof

/-- One byte of a frame. -/
abbrev Byte := BitVec 8

/-- One two-byte field: a sequence number, an event set, a signed status field. -/
abbrev Word16 := BitVec 16

/-- A frame, byte 0 first (R5). -/
abbrev Frame := List Byte

end Sys2Proof
end

