-- ==== Sys2Proof/Syntax.lean ====
section
/-! DEFINITION. The commands of the block: one constructor per row of spec/opcode_table.json, with the operands the
surroundings give. -/

namespace Sys2Proof

/-- The two links of a node: inner faces the pivot, outer faces the end tower. -/
inductive Link where
  | inner
  | outer
  deriving DecidableEq, Repr

/-- The strapped role (R190): END is `endNode`. -/
inductive Role where
  | mid
  | endNode
  deriving DecidableEq, Repr

/-- The level of a pin. -/
inductive Level where
  | low
  | high
  deriving DecidableEq, Repr

/-- What a strap pin is tied to at installation (R190): a level, or nothing. -/
inductive StrapPin where
  | tied (level : Level)
  | unconnected
  deriving DecidableEq, Repr

/-- The five index strap pins (R190). -/
structure IndexStraps where
  idx4 : StrapPin
  idx3 : StrapPin
  idx2 : StrapPin
  idx1 : StrapPin
  idx0 : StrapPin
  deriving DecidableEq, Repr

/-- The six conditioned inputs (Inputs, Events and Tower Lamp). -/
inductive InputName where
  | safe
  | hand
  | jogF
  | jogR
  | drdy
  | aux
  deriving DecidableEq, Repr

/-- One byte as a receiver delimits it (R2): its eight data bits, and whether its stop bit was at the stop level. -/
structure RxByte where
  data : Byte
  stopOk : Bool
  deriving DecidableEq, Repr

/-- The eight payload bytes of a service record (R8, R164): byte 0 the selector, byte 1 the action byte, bytes 2 to 7
the value field. -/
structure Payload where
  b0 : Byte
  b1 : Byte
  b2 : Byte
  b3 : Byte
  b4 : Byte
  b5 : Byte
  b6 : Byte
  b7 : Byte
  deriving DecidableEq, Repr

/-- What the centre controller chooses in a service record beside the operation (R8). -/
structure Request where
  target : Byte
  tag : Byte
  item : Word16
  payload : Payload
  deriving DecidableEq, Repr

/-- The service record of a frame (R8). -/
structure ServiceRecord where
  target : Byte
  op : Byte
  tag : Byte
  result : Byte
  item : Word16
  payload : Payload
  deriving DecidableEq, Repr

/-- The commands: the rows of spec/opcode_table.json, in the table's order. -/
inductive Instr where
  /-- SUPPLY_OK rises after being low (R189). -/
  | powerOnReset
  /-- SUPPLY_OK falls (R189). -/
  | supplyLoss
  /-- The 2 ms initialisation ends with the index straps and ROLE tied so (R189, R190). -/
  | initialisationEnd (index : IndexStraps) (role : StrapPin)
  /-- RESETn is driven low (R191). -/
  | pinReset
  /-- RESETn goes high (R191). -/
  | pinResetRelease
  /-- A burst has been delimited on the receive pair of a link (R3, R10): its bytes, first byte first. -/
  | frameArrival (link : Link) (burst : List RxByte)
  /-- The last byte of a frame has left the transmit pair of a link (R12). -/
  | transmitComplete (link : Link)
  /-- The outbound processing of the taken outbound frame (R23). -/
  | outboundProcessing
  /-- The clear set of an owned slot (R184). -/
  | clearSet (named : Word16)
  /-- The DRIVE_RESET flag of an owned slot (R57, R58). -/
  | driveReset
  /-- Service operation 01h (R165). -/
  | readParam (q : Request)
  /-- Service operation 02h (R166). -/
  | writeParam (q : Request)
  /-- Service operation 03h (R167). -/
  | readEntry (q : Request)
  /-- Service operation 04h (R149, R167). -/
  | writeEntry (q : Request)
  /-- Service operation 05h (R150, R167). -/
  | trimEntries (q : Request)
  /-- Service operation 06h (R150, R167). -/
  | stageFromActive (q : Request)
  /-- Service operation 07h (R152, R168). -/
  | commit (q : Request)
  /-- Service operation 08h (R169). -/
  | setEvents (q : Request)
  /-- Service operation 09h (R170). -/
  | readLive (q : Request)
  /-- Service operation 0Ah (R172). -/
  | lineReset (q : Request)
  /-- A record whose operation byte is none of 01h to 0Ah (R163). -/
  | unknownOp (op : Byte) (q : Request)
  /-- The taken inbound frame is matched, latched when it matches, and sent on (R20). -/
  | inboundTake
  /-- The waiting line reset takes effect (R22, R173). -/
  | lineResetEffect
  /-- The frame timeout expires (R18). -/
  | frameTimeout
  /-- A rising edge on JOINT in MEASURING, this many 1 MHz samples after the edge before it (R90, R91). -/
  | jointReadingComplete (samples : Nat)
  /-- A tooth at the wheel (R107). -/
  | wheelTooth
  /-- The stall test that finds the counter at the threshold (R109, R110). -/
  | stall
  /-- The filtered pin level of an input becomes this level (R179). -/
  | inputChange (input : InputName) (level : Level)
  /-- The phase timer expires in STARTING (R125). -/
  | startTimeout
  /-- The DUTY on-time has elapsed (R126). -/
  | onTimeEnd
  /-- The later of the period end and the MIN_OFF expiry (R127). -/
  | restingEnd
  /-- STOP_TIME expires in STOPPING (R133). -/
  | stopTimeEnd
  /-- The local step timer of the lamp expires (R187). -/
  | localStepTimerExpiry
  /-- One 1 ms tick, with the WHEEL pin sampled at this level (R106). -/
  | wheelTick (level : Level)
  /-- A rising edge on JOINT in UNARMED (R90). -/
  | jointMeasurementStart
  /-- A falling edge on JOINT in MEASURING, this many 1 MHz samples after the rising edge (R90). -/
  | jointFallingEdge (samples : Nat)
  /-- One sample of an input at its filter's sample clock (R176). -/
  | inputSample (input : InputName) (level : Level)
  deriving DecidableEq, Repr

end Sys2Proof
end

