-- ==== Sys2Proof/WellFormed.lean ====
section
/-! DEFINITION. Which commands the surroundings can send: the checks the operand types do not make. -/

namespace Sys2Proof

/-- The operation bytes that R163 names, 01h to 0Ah. -/
def knownOp (op : Byte) : Bool :=
  decide (1 ≤ op.toNat ∧ op.toNat ≤ 10)

/-- A command the surroundings can send. A burst holds at least the byte whose start bit opened it (R3); two edges on
JOINT are at least one sample apart (R90); an UNKNOWN_OP record carries none of the ten operations (R163). -/
def Instr.wf : Instr → Bool
  | .frameArrival _ burst => !burst.isEmpty
  | .jointReadingComplete samples => decide (1 ≤ samples)
  | .jointFallingEdge samples => decide (1 ≤ samples)
  | .unknownOp op _ => !knownOp op
  | .powerOnReset => true
  | .supplyLoss => true
  | .initialisationEnd _ _ => true
  | .pinReset => true
  | .pinResetRelease => true
  | .transmitComplete _ => true
  | .outboundProcessing => true
  | .clearSet _ => true
  | .driveReset => true
  | .readParam _ => true
  | .writeParam _ => true
  | .readEntry _ => true
  | .writeEntry _ => true
  | .trimEntries _ => true
  | .stageFromActive _ => true
  | .commit _ => true
  | .setEvents _ => true
  | .readLive _ => true
  | .lineReset _ => true
  | .inboundTake => true
  | .lineResetEffect => true
  | .frameTimeout => true
  | .wheelTooth => true
  | .stall => true
  | .inputChange _ _ => true
  | .startTimeout => true
  | .onTimeEnd => true
  | .restingEnd => true
  | .stopTimeEnd => true
  | .localStepTimerExpiry => true
  | .wheelTick _ => true
  | .jointMeasurementStart => true
  | .inputSample _ _ => true

end Sys2Proof
end

