-- ==== Sys2Proof/Decode.lean ====
section
/-! DEFINITION. The command a word spells by the table's bits. No row of spec/opcode_table.json gives bits (its rows
have no "fixed" and empty "fields"), so no word spells a command. -/

namespace Sys2Proof

/-- The command spelled by the `nbits` low bits of `w`: none, for every word. -/
def decodeTableWord (_nbits _w : Nat) : Option Instr :=
  none

end Sys2Proof
end

