-- ==== Sys2Proof/Config.lean ====
section
/-! DEFINITION. What the spec leaves open: the free values, constants with no body. -/

namespace Sys2Proof

/-- R178 and R179: when one profile swap turns the AUX reading over AND changes AUX_EDGE, the spec does not say
whether the turn is judged by the AUX_EDGE of the bank that leaves or of the bank that enters. A free value
(DESIGN CHOICE, safe, log 12): true, the entering bank's. -/
opaque Config.auxTurnByNewEdge : Bool

end Sys2Proof
end

