-- ==== Sys2Proof/Machine/Blocks.lean ====
section
/-! DEFINITION. The types of the state: one structure per block of the data book's block diagram, and the record types
they hold. Every type is plain data. -/

namespace Sys2Proof.Machine

/-! ## Names shared by the blocks -/

/-- The two directions of travel; the levels of DRIVE_DIR (R121). -/
inductive Direction where
  | forward
  | reverse
  deriving DecidableEq, Repr

/-- The result of the last drive reset or the last commit (R7): NONE, DONE, REFUSED. -/
inductive LastResult where
  | notYet
  | done
  | refused
  deriving DecidableEq, Repr

/-- A millisecond timer that runs: the length it started with and the time remaining (R17, R121, R187). -/
structure Timer where
  length : Nat
  left : Nat
  deriving DecidableEq, Repr

/-- One value for each of the six conditioned inputs. -/
structure PerInput (α : Type) where
  safe : α
  hand : α
  jogF : α
  jogR : α
  drdy : α
  aux : α
  deriving DecidableEq, Repr

/-! ## The profile (R141, R143) -/

/-- DRIVE_MODE (R141). -/
inductive DriveMode where
  | duty
  | rate
  deriving DecidableEq, Repr

/-- AUX_EDGE (R141, R179). -/
inductive AuxEdge where
  | rising
  | falling
  | both
  deriving DecidableEq, Repr

/-- INPUT_FILTER of one input (R141, R176): NONE is `unfiltered`. -/
inductive FilterKind where
  | unfiltered
  | fast
  | slow
  deriving DecidableEq, Repr

/-- A lamp pattern (R141): step n at bit n - 1, the number of steps used, the cycles each lasts. -/
structure LampPattern where
  steps : BitVec 12
  length : Nat
  width : Nat
  deriving DecidableEq, Repr

/-- TRIP_ENABLES (R141). -/
structure TripEnables where
  joint : Bool
  overSpeed : Bool
  underSpeed : Bool
  field : Bool
  stall : Bool
  deriving DecidableEq, Repr

/-- The thirty-four parameters of a bank (R141), in the order of their ids. RADIUS and VMAX of 0 mean unset. -/
structure Params where
  radius : Nat
  vmax : Nat
  reserve : Nat
  gain : Nat
  deadband : Nat
  jointSpan : Nat
  jointOffset : Int
  jointPeriodMin : Nat
  jointPeriodMax : Nat
  warnLimit : Nat
  safetyLimit : Nat
  holdLimit : Nat
  teeth : Nat
  circumference : Nat
  stallTicks : Nat
  dragThreshold : Nat
  driveMode : DriveMode
  dutyPeriod : Nat
  minOn : Nat
  minOff : Nat
  startTimeout : Nat
  stopTime : Nat
  cyclePeriod : Nat
  linkMissLimit : Nat
  returnMissLimit : Nat
  tripEnables : TripEnables
  /-- INPUT_POLARITY: true marks an input active-low (R164). -/
  inputPolarity : PerInput Bool
  inputFilter : PerInput FilterKind
  auxEdge : AuxEdge
  lampRun : LampPattern
  lampHold : LampPattern
  lampFault : LampPattern
  lampSector : LampPattern
  jogDemand : Nat
  deriving DecidableEq, Repr

/-- The action of a sector entry (R143). -/
inductive SectorAction where
  | limit
  | halt
  | watch
  | lamp
  deriving DecidableEq, Repr

/-- A sector entry (R143): it covers from its start, included, to its stop angle, excluded. -/
structure Sector where
  start : Nat
  stop : Nat
  factor : Nat
  action : SectorAction
  deriving DecidableEq, Repr

/-- A profile (R141, R143): a parameter set and a list of sector entries in index order. -/
structure Profile where
  params : Params
  entries : List Sector
  deriving DecidableEq, Repr

/-- The two banks (R140). -/
inductive BankId where
  | a
  | b
  deriving DecidableEq, Repr

/-- A lookup result that found an entry (R145): its index and its fields. -/
structure LookupHit where
  index : Nat
  entry : Sector
  deriving DecidableEq, Repr

/-! ## The blocks -/

/-- The supply, the reset pin, the straps as latched and the count of the 1 kHz reference (R189 to R192). -/
structure PowerBlock where
  supplyOk : Bool
  resetLow : Bool
  initialising : Bool
  index : BitVec 5
  role : Role
  /-- 1 ms ticks since the release from reset, modulo 20 (R175, R192). -/
  refTick : Nat
  /-- The model's own: the inputs whose sample of the present 1 ms tick is still to be made (R175, log 26). -/
  sampleDue : PerInput Bool
  deriving DecidableEq, Repr

/-- A transmit buffer (R12): empty, holding a taken frame whose processing or matching is still to be made, or sending. -/
inductive TxBuffer where
  | empty
  | taken (f : Frame)
  | sending (f : Frame)
  deriving DecidableEq, Repr

/-- The return record when it is not none (R19): a sequence and whether its return has been taken. -/
structure ReturnRecord where
  seq : Word16
  returned : Bool
  deriving DecidableEq, Repr

/-- The two kinds of line reset (R172). -/
inductive LineResetKind where
  | hard
  | soft
  deriving DecidableEq, Repr

/-- The Line Interface (Span Line Transport, R12, R17, R19, R22). -/
structure LineBlock where
  rxInner : Option Frame
  rxOuter : Option Frame
  txInner : TxBuffer
  txOuter : TxBuffer
  frameTimer : Option Timer
  returnRec : Option ReturnRecord
  missCount : Nat
  /-- The sequence of the last outbound frame taken (R52). -/
  lastOut : Word16
  /-- The line reset ordered and waiting for its frame to leave (R173). -/
  waitingReset : Option LineResetKind
  deriving DecidableEq, Repr

/-- The outbound chain record (R33). -/
inductive OutChain where
  | noFrame
  | closed
  | openedHere
  | openedElsewhere
  deriving DecidableEq, Repr

/-- The Slot Engine (Frame Contents at the Node). -/
structure SlotBlock where
  ceiling : Nat
  chainOpen : Bool
  outChain : OutChain
  runPermit : Bool
  haltPass : Bool
  pendingCommit : Bool
  /-- Stage 1 of the last outbound processing made a swap (R171). -/
  swapMade : Bool
  /-- The model's own: the service record as the last stage 8, or the last service command, left it (log 8). -/
  record : Option ServiceRecord
  deriving DecidableEq, Repr

/-- The node states (Node States and Trips): STANDBY with or without strap fault; LOCAL is `manual`. -/
inductive NodeState where
  | standby (strapFault : Bool)
  | idle
  | run
  | hold
  | tripped
  | manual
  deriving DecidableEq, Repr

/-- The hold-cause set (R50). -/
structure HoldCauses where
  linkLost : Bool
  returnLost : Bool
  chain : Bool
  noSlot : Bool
  deriving DecidableEq, Repr

/-- The nine trip causes (R51), in the order of their codes. -/
inductive TripCause where
  | align
  | safe
  | stall
  | sensorLost
  | driveFault
  | joint
  | overSpeed
  | underSpeed
  | field
  deriving DecidableEq, Repr

/-- A trip record that is present (R52). -/
structure TripRecord where
  cause : TripCause
  seq : Word16
  extra : Nat
  deriving DecidableEq, Repr

/-- The State Controller (Node States and Trips). -/
structure CtrlBlock where
  node : NodeState
  holds : HoldCauses
  trip : Option TripRecord
  driveResult : LastResult
  /-- The machine mode record: true is RUN (R44). -/
  machineRun : Bool
  deriving DecidableEq, Repr

/-- A set of conditions (R79, R80). -/
structure Conditions where
  joint : Bool
  overSpeed : Bool
  underSpeed : Bool
  nocap : Bool
  short : Bool
  field : Bool
  deriving DecidableEq, Repr

/-- The Demand Computer (The Motion Computation). -/
structure DemandBlock where
  d : Nat
  c : Nat
  theta : Int
  causes : Conditions
  sticky : Conditions
  deriving DecidableEq, Repr

/-- The joint measurement (R90). -/
inductive Measurement where
  | unarmed
  | measuring (period high : Nat) (highRuns : Bool)
  deriving DecidableEq, Repr

/-- A joint reading (R91). -/
structure Reading where
  period : Nat
  high : Nat
  duty : Nat
  deriving DecidableEq, Repr

/-- Joint Capture. -/
structure JointBlock where
  measurement : Measurement
  reading : Option Reading
  fresh : Bool
  valid : Bool
  lastTheta : Int
  holdCount : Nat
  deriving DecidableEq, Repr

/-- The Wheel Monitor. -/
structure WheelBlock where
  level : Option Level
  /-- The sample before, for the two-sample qualification of R105. -/
  lastSample : Option Level
  counter : Nat
  armed : Bool
  period : Nat
  frozen : Bool
  drag : Nat
  deriving DecidableEq, Repr

/-- The drive states (R121). -/
inductive DriveState where
  | off
  | starting
  | running
  | resting
  | stopping
  | faulted
  deriving DecidableEq, Repr

/-- The Drive Sequencer. -/
structure DriveBlock where
  st : DriveState
  dir : Direction
  rateRef : Nat
  /-- The value RATE_REF pulses in the present 1 ms period (R121). -/
  rateOut : Nat
  dirRecord : Direction
  latchedD : Nat
  onTime : Nat
  period : Option Timer
  phase : Option Timer
  dirChange : Bool
  jog : Bool
  lockout : Bool
  deriving DecidableEq, Repr

/-- The Crossing Table. -/
structure TableBlock where
  bankA : Profile
  bankB : Profile
  active : BankId
  pendingSwap : Bool
  generation : Byte
  lastCommit : LastResult
  lastAngle : Option Nat
  lookup : Option LookupHit
  deriving DecidableEq, Repr

/-- The Event Unit: the event of rank n at bit n - 1 of each set (R7, R180). -/
structure EventBlock where
  flags : Word16
  enable : Word16
  high : Word16
  deriving DecidableEq, Repr

/-- The sample run of an input (R176): the level of the last sample and how many, up to 3, have read it. -/
structure SampleRun where
  level : Level
  count : Nat
  deriving DecidableEq, Repr

/-- What the Input Conditioner holds for one input. -/
structure InputState where
  pin : Option Level
  samples : Option SampleRun
  deriving DecidableEq, Repr

/-- The Lamp Generator. -/
structure LampBlock where
  stepCount : Word16
  stepTimer : Option Timer
  deriving DecidableEq, Repr

end Sys2Proof.Machine
end

