-- ==== Sys2Proof/Machine/Frame.lean ====
section
/-! DEFINITION. The cycle frame as bytes: byte order, the three layouts (R5 to R8), the check (R9), the acceptance tests
(R10), the line signalling of a sent frame (R2, R4). -/

namespace Sys2Proof.Machine

/-! ## Bytes and byte order -/

/-- Byte `i` of a frame; 0 beyond its end. -/
def byteAt (f : Frame) (i : Nat) : Byte := f.getD i 0

/-- The two-byte field at `i`, high byte first (R5). -/
def word16At (f : Frame) (i : Nat) : Word16 := byteAt f i ++ byteAt f (i + 1)

/-- The same field as an unsigned number. -/
def natAt (f : Frame) (i : Nat) : Nat := (word16At f i).toNat

/-- The high byte of a two-byte field. -/
def highByte (w : Word16) : Byte := w.extractLsb' 8 8

/-- The low byte of a two-byte field. -/
def lowByte (w : Word16) : Byte := w.extractLsb' 0 8

/-- A two-byte field as it is sent, high byte first. -/
def wordBytes (w : Word16) : List Byte := [highByte w, lowByte w]

/-- An unsigned number as a two-byte field. -/
def natBytes (n : Nat) : List Byte := wordBytes (BitVec.ofNat 16 n)

/-- A signed number as a two-byte two's complement field. -/
def intBytes (z : Int) : List Byte := wordBytes (BitVec.ofInt 16 z)

/-- `f` with the bytes from `i` on replaced by `bs`; bytes beyond the end of `f` are not written. -/
def writeBytes (f : Frame) (i : Nat) : List Byte → Frame
  | [] => f
  | b :: bs => writeBytes (f.set i b) (i + 1) bs

/-! ## Header (R6) -/

/-- Header byte 0, the value of a cycle frame's kind. -/
def cycleKind : Byte := 0x3A#8

/-- The pass bit: true is INBOUND. -/
def frameInbound (f : Frame) : Bool := (byteAt f 1).getLsbD 0

/-- The direction field. -/
def frameDirection (f : Frame) : Direction := if (byteAt f 1).getLsbD 1 then .reverse else .forward

/-- The machine mode field: true is RUN. -/
def frameMachineRun (f : Frame) : Bool := (byteAt f 1).getLsbD 2

/-- The chain field: true is OPEN. -/
def frameChainOpen (f : Frame) : Bool := (byteAt f 1).getLsbD 3

/-- The service-present flag S. -/
def frameService (f : Frame) : Bool := (byteAt f 1).getLsbD 4

/-- The sequence. -/
def frameSeq (f : Frame) : Word16 := word16At f 2

/-- The pivot angle field. -/
def framePivot (f : Frame) : Nat := natAt f 4

/-- The rate field. -/
def frameRate (f : Frame) : Nat := natAt f 6

/-- The ceiling field. -/
def frameCeiling (f : Frame) : Nat := natAt f 8

/-- The slot count N. -/
def frameSlots (f : Frame) : Nat := (byteAt f 11).toNat

/-- `f` with its ceiling field replaced. -/
def setCeiling (f : Frame) (c : Nat) : Frame := writeBytes f 8 (natBytes c)

/-- `f` with its chain OPEN and this opener (R33). -/
def setChainOpen (f : Frame) (opener : Byte) : Frame :=
  (f.set 1 (byteAt f 1 ||| 0x08#8)).set 10 opener

/-- `f` with its pass INBOUND (R16). -/
def setInbound (f : Frame) : Frame := f.set 1 (byteAt f 1 ||| 0x01#8)

/-! ## Slots (R7) and the service record (R8) -/

/-- The byte at which slot `k` begins (R5), `k` from 1. -/
def slotAt (k : Nat) : Nat := 12 + 20 * (k - 1)

/-- The command flags byte of slot `k`. -/
def slotCommand (f : Frame) (k : Nat) : Byte := byteAt f (slotAt k)

/-- The clear set of slot `k`. -/
def slotClearSet (f : Frame) (k : Nat) : Word16 := word16At f (slotAt k + 1)

/-- The status marker of slot `k`: bit 7 of its byte 3. -/
def slotMarker (f : Frame) (k : Nat) : Bool := (byteAt f (slotAt k + 3)).getLsbD 7

/-- `f` with bytes 3 to 19 of slot `k` replaced. -/
def setStatus (f : Frame) (k : Nat) (status : List Byte) : Frame := writeBytes f (slotAt k + 3) status

/-- The byte at which the service record begins when S is 1 (R5). -/
def recordAt (f : Frame) : Nat := 12 + 20 * frameSlots f

/-- The payload that begins at byte `i`. -/
def payloadAt (f : Frame) (i : Nat) : Payload where
  b0 := byteAt f i
  b1 := byteAt f (i + 1)
  b2 := byteAt f (i + 2)
  b3 := byteAt f (i + 3)
  b4 := byteAt f (i + 4)
  b5 := byteAt f (i + 5)
  b6 := byteAt f (i + 6)
  b7 := byteAt f (i + 7)

/-- The eight bytes of a payload, byte 0 first. -/
def Payload.bytes (p : Payload) : List Byte := [p.b0, p.b1, p.b2, p.b3, p.b4, p.b5, p.b6, p.b7]

/-- The service record of a frame that carries one (R8). -/
def frameRecord (f : Frame) : ServiceRecord where
  target := byteAt f (recordAt f)
  op := byteAt f (recordAt f + 1)
  tag := byteAt f (recordAt f + 2)
  result := byteAt f (recordAt f + 3)
  item := word16At f (recordAt f + 4)
  payload := payloadAt f (recordAt f + 6)

/-- `f` with the result and the payload of its service record replaced: the only record bytes a node writes (R8). -/
def setAnswer (f : Frame) (r : ServiceRecord) : Frame :=
  writeBytes (f.set (recordAt f + 3) r.result) (recordAt f + 6) (Payload.bytes r.payload)

/-! ## The check (R9) -/

/-- One bit of the check computation: the register shifts left, and takes the generator 1021h when a 1 leaves it. -/
def crcShift (r : Word16) : Word16 := if r.msb then (r <<< 1) ^^^ 0x1021#16 else r <<< 1

/-- One byte, most significant bit first. -/
def crcByte (r : Word16) (b : Byte) : Word16 :=
  crcShift (crcShift (crcShift (crcShift (crcShift (crcShift (crcShift (crcShift (r ^^^ (b ++ 0#8)))))))))

/-- The check over a list of bytes, the register starting at FFFFh, sent without inversion. -/
def crc16 (bs : List Byte) : Word16 := bs.foldl crcByte 0xFFFF#16

/-- `f` with its last two bytes replaced by the check over all the others. -/
def sealFrame (f : Frame) : Frame := f.take (f.length - 2) ++ wordBytes (crc16 (f.take (f.length - 2)))

/-- The recomputed check equals the last two bytes. -/
def checkHolds (f : Frame) : Bool := decide (crc16 (f.take (f.length - 2)) = word16At f (f.length - 2))

/-! ## Acceptance (R3, R10) -/

/-- The length of a frame with `n` slots and service flag `service` (R5). -/
def frameLength (n : Nat) (service : Bool) : Nat := 12 + 20 * n + (if service then 14 else 0) + 2

/-- The bytes of a burst that the receive buffer stores: at most 628 (R3). -/
def storedBytes (burst : List RxByte) : Frame := (burst.take 628).map RxByte.data

/-- A byte of the burst was a framing error (R2). -/
def framingError (burst : List RxByte) : Bool := burst.any fun b => !b.stopOk

/-- The pass of a frame that belongs on the link it arrived on (R10): OUTBOUND on the inner, INBOUND on the outer. -/
def passFits : Link → Frame → Bool
  | .inner, f => !frameInbound f
  | .outer, f => frameInbound f

/-- A burst passes every test of R10 on this link. The length counted is that of the whole burst (R3). -/
def acceptable (link : Link) (burst : List RxByte) : Bool :=
  let f := storedBytes burst
  !framingError burst
    && decide (34 ≤ burst.length ∧ burst.length ≤ 628)
    && decide (byteAt f 0 = cycleKind)
    && decide (1 ≤ frameSlots f ∧ frameSlots f ≤ 30)
    && decide (burst.length = frameLength (frameSlots f) (frameService f))
    && checkHolds f
    && passFits link f

/-! ## Line signalling of what is sent (R2, R4) -/

/-- The bit times of one byte, true the stop level: a start bit, eight data bits least significant first, a stop bit. -/
def byteBits (b : Byte) : List Bool :=
  [false, b.getLsbD 0, b.getLsbD 1, b.getLsbD 2, b.getLsbD 3, b.getLsbD 4, b.getLsbD 5, b.getLsbD 6, b.getLsbD 7, true]

/-- The bit times of one sent frame: its bytes back to back, then the 20 idle bit times that end it (R3, R4). -/
def frameBits (f : Frame) : List Bool := f.flatMap byteBits ++ List.replicate 20 true

end Sys2Proof.Machine
end

