-- ==== Sys2Proof/Machine/Motion.lean ====
section
/-! DEFINITION. The arithmetic of the node: rounding (R1), the six steps of the motion computation (R70 to R78), the
joint angle (R91 to R93), speed and drag (R114 to R116), the DUTY on-time (R124). Pure functions of numbers. -/

namespace Sys2Proof.Machine

/-- Rounding half up (R1): half the divisor is added, the sum is divided, the remainder discarded. -/
def roundDiv (n m : Nat) : Nat := (n + m / 2) / m

/-- Step 1 (R70): floor(ω × min(C, L_own) / 1000), and 0 when the latched chain is OPEN. -/
def effectiveRate (omega ceiling own : Nat) (chainOpen : Bool) : Nat :=
  if chainOpen then 0 else omega * min ceiling own / 1000

/-- The linear speed of steps 2 and 6 (R71, R77): round(ω × RADIUS × 29089 / 100,000,000) mm/min. -/
def linearSpeed (omega radius : Nat) : Nat := roundDiv (omega * radius * 29089) 100000000

/-- The alignment error after the deadband (R72). -/
def deadbandError (e : Int) (deadband : Nat) : Int :=
  if e.natAbs ≤ deadband then 0 else e - e.sign * (deadband : Int)

/-- The correction limit L_c (R73). -/
def correctionLimit (vmax reserve : Nat) : Nat := vmax * reserve / 1000

/-- `z` held within plus and minus `limit`. -/
def clampTo (limit : Nat) (z : Int) : Int := max (-(limit : Int)) (min (limit : Int) z)

/-- Step 3 (R72, R73): the speed correction Δv, 0 at END and at ω_eff = 0. GAIN 0 and RESERVE 0 give 0 by the
arithmetic itself. -/
def speedCorrection (p : Params) (role : Role) (wEff : Nat) (sign theta : Int) : Int :=
  if role = .endNode ∨ wEff = 0 then 0
  else clampTo (correctionLimit p.vmax p.reserve) ((deadbandError (sign * theta) p.deadband * (p.gain : Int)).tdiv 100)

/-- Step 4 (R74): the demand speed within 0 and VMAX. -/
def demandSpeed (vmax vff : Nat) (dv : Int) : Nat :=
  if (vff : Int) + dv > (vmax : Int) then vmax else ((vff : Int) + dv).toNat

/-- Step 5 (R75): the candidate demand. -/
def candidateDemand (v vmax : Nat) : Nat := roundDiv (v * 1000) vmax

/-- Step 6 (R77): the capability cap; 1000 when v_cmd is 0. -/
def capabilityCap (p : Params) (vCmd : Nat) : Nat :=
  if vCmd = 0 then 1000 else min 1000 (p.vmax * (1000 - p.reserve) / vCmd)

/-- What steps 1 to 6 yield. -/
structure MotionResult where
  candidate : Nat
  contribution : Nat
  overSpeed : Bool
  underSpeed : Bool
  nocap : Bool
  deriving DecidableEq, Repr

/-- RADIUS and VMAX are set (R157). -/
def Params.complete (p : Params) : Bool := decide (p.radius ≠ 0 ∧ p.vmax ≠ 0)

/-- Steps 1 to 6 on the inputs of R64. With an invalid profile every quantity is 0 and no condition is raised (R69). -/
def motionSteps (p : Params) (role : Role) (omega ceiling own : Nat) (chainOpen : Bool) (sign theta : Int) :
    MotionResult :=
  if Params.complete p then
    let wEff := effectiveRate omega ceiling own chainOpen
    let vff := linearSpeed wEff p.radius
    let dv := speedCorrection p role wEff sign theta
    let vCmd := linearSpeed omega p.radius
    { candidate := candidateDemand (demandSpeed p.vmax vff dv) p.vmax
      contribution := min (capabilityCap p vCmd) own
      overSpeed := decide ((vff : Int) + dv > (p.vmax : Int))
      underSpeed := decide ((vff : Int) + dv < 0)
      nocap := decide (vCmd = 0) }
  else { candidate := 0, contribution := 0, overSpeed := false, underSpeed := false, nocap := false }

/-! ## Joint angle -/

/-- Where the counts of the measurement stop (R90). -/
def countLimit : Nat := 65535

/-- The duty of a reading (R91). -/
def dutyOf (high period : Nat) : Nat := high * 10000 / period

/-- The validity test (R92). -/
def readingValid (p : Params) (r : Reading) : Bool :=
  decide (p.jointPeriodMin ≤ r.period ∧ r.period ≤ p.jointPeriodMax ∧ 500 ≤ r.duty ∧ r.duty ≤ 9500)

/-- The angle of a reading (R93). -/
def jointAngle (p : Params) (r : Reading) : Int :=
  (((r.duty : Int) - 5000) * (p.jointSpan : Int)).tdiv 4500 + p.jointOffset

/-! ## Speed and drag -/

/-- The measured speed (R114), 0 unless the period lies from 1 to 65534 and is not frozen. -/
def measuredSpeed (p : Params) (period : Nat) (frozen : Bool) : Nat :=
  if 1 ≤ period ∧ period ≤ 65534 ∧ frozen = false then p.circumference * 60000 / (p.teeth * period) else 0

/-- The drag ratio (R116). -/
def dragRatio (speed expected : Nat) : Nat := min 1000 (1000 * speed / expected)

/-! ## The DUTY on-time -/

/-- The on-time before MIN_ON is looked at (R124), in tenths of a second. -/
def rawOnTime (d dutyPeriod : Nat) : Nat := roundDiv (d * dutyPeriod) 1000

/-- The on-time lies above 0 and below MIN_ON (R124). -/
def onTimeShort (raw minOn : Nat) : Bool := decide (0 < raw ∧ raw < minOn)

/-- The on-time of a period (R124): a short one becomes the nearer of 0 and MIN_ON, MIN_ON on a tie. -/
def dutyOnTime (raw minOn : Nat) : Nat :=
  if onTimeShort raw minOn then (if minOn - raw ≤ raw then minOn else 0) else raw

end Sys2Proof.Machine
end

