-- ==== Sys2Proof/Machine/Resets.lean ====
section
/-! DEFINITION. The reset value of each block, and the defaults of a profile bank, as each block's table gives them. -/

namespace Sys2Proof.Machine

/-- LAMP_RUN's default (R141): twelve steps on; length 12; width 1. -/
def defaultLampRun : LampPattern := { steps := 0xFFF#12, length := 12, width := 1 }

/-- LAMP_HOLD's default (R141): one step on, seven off; length 8; width 2. Steps 9 to 12 are off (DESIGN CHOICE, log 29). -/
def defaultLampHold : LampPattern := { steps := 0x001#12, length := 8, width := 2 }

/-- LAMP_FAULT's default (R141): on and off alternately; length 8; width 1. Steps 9 to 12 continue the alternation
(DESIGN CHOICE, log 29). -/
def defaultLampFault : LampPattern := { steps := 0x555#12, length := 8, width := 1 }

/-- LAMP_SECTOR's default (R141): on, on, off, off, on, on, then six off; length 12; width 1. -/
def defaultLampSector : LampPattern := { steps := 0x033#12, length := 12, width := 1 }

/-- The default parameters (R141). -/
def Params.default : Params where
  radius := 0
  vmax := 0
  reserve := 150
  gain := 300
  deadband := 20
  jointSpan := 1500
  jointOffset := 0
  jointPeriodMin := 800
  jointPeriodMax := 1200
  warnLimit := 500
  safetyLimit := 900
  holdLimit := 4
  teeth := 16
  circumference := 3600
  stallTicks := 20000
  dragThreshold := 900
  driveMode := .duty
  dutyPeriod := 600
  minOn := 20
  minOff := 20
  startTimeout := 10
  stopTime := 20
  cyclePeriod := 500
  linkMissLimit := 3
  returnMissLimit := 2
  tripEnables := { joint := false, overSpeed := false, underSpeed := false, field := false, stall := true }
  inputPolarity := { safe := false, hand := false, jogF := false, jogR := false, drdy := false, aux := false }
  inputFilter := { safe := .fast, hand := .slow, jogF := .slow, jogR := .slow, drdy := .fast, aux := .slow }
  auxEdge := .rising
  lampRun := defaultLampRun
  lampHold := defaultLampHold
  lampFault := defaultLampFault
  lampSector := defaultLampSector
  jogDemand := 500

/-- A bank after the resets of R158: default parameters, no entries. -/
def Profile.default : Profile := { params := Params.default, entries := [] }

/-- The empty set of conditions (R89). -/
def Conditions.none : Conditions :=
  { joint := false, overSpeed := false, underSpeed := false, nocap := false, short := false, field := false }

/-- The Line Interface after every reset but a drive reset (R21, R22). The last outbound sequence is DESIGN CHOICE 0
(log 15). -/
def LineBlock.reset : LineBlock where
  rxInner := .none
  rxOuter := .none
  txInner := .empty
  txOuter := .empty
  frameTimer := .none
  returnRec := .none
  missCount := 0
  lastOut := 0
  waitingReset := .none

/-- The Slot Engine after a power-on, pin or HARD reset (R42). -/
def SlotBlock.reset : SlotBlock where
  ceiling := 0
  chainOpen := true
  outChain := .noFrame
  runPermit := false
  haltPass := false
  pendingCommit := false
  swapMade := false
  record := .none

/-- The hold-cause set after a reset: CHAIN alone (R43). -/
def HoldCauses.reset : HoldCauses := { linkLost := false, returnLost := false, chain := true, noSlot := false }

/-- A strapped index of 1 to 30 is valid (R190). -/
def validIndex (index : BitVec 5) : Bool := decide (1 ≤ index.toNat ∧ index.toNat ≤ 30)

/-- The State Controller after every reset but a drive reset (R43): strap fault when the latched index is invalid. -/
def CtrlBlock.reset (index : BitVec 5) : CtrlBlock where
  node := .standby (!validIndex index)
  holds := HoldCauses.reset
  trip := .none
  driveResult := .notYet
  machineRun := false

/-- The Demand Computer after every reset but a drive reset (R89). -/
def DemandBlock.reset : DemandBlock where
  d := 0
  c := 0
  theta := 0
  causes := Conditions.none
  sticky := Conditions.none

/-- Joint Capture after every reset but a drive reset (R104). -/
def JointBlock.reset : JointBlock where
  measurement := .unarmed
  reading := .none
  fresh := false
  valid := false
  lastTheta := 0
  holdCount := 0

/-- The Wheel Monitor after every reset but a drive reset (R120). -/
def WheelBlock.reset : WheelBlock where
  level := .none
  lastSample := .none
  counter := 0
  armed := false
  period := 0
  frozen := false
  drag := 1000

/-- The Drive Sequencer after every reset but a drive reset (R139). -/
def DriveBlock.reset : DriveBlock where
  st := .off
  dir := .forward
  rateRef := 0
  rateOut := 0
  dirRecord := .forward
  latchedD := 0
  onTime := 0
  period := .none
  phase := .none
  dirChange := false
  jog := false
  lockout := false

/-- The Crossing Table after a power-on, pin or HARD reset (R158). -/
def TableBlock.reset : TableBlock where
  bankA := Profile.default
  bankB := Profile.default
  active := .a
  pendingSwap := false
  generation := 0
  lastCommit := .notYet
  lastAngle := .none
  lookup := .none

/-- The Event Unit after every reset but a drive reset (R185): no flags, all sixteen enabled, ranks 1 to 9 high. -/
def EventBlock.reset : EventBlock where
  flags := 0
  enable := 0xFFFF#16
  high := 0x01FF#16

/-- One input of the Input Conditioner after every reset but a drive reset (R177). -/
def InputState.reset : InputState := { pin := .none, samples := .none }

/-- The Input Conditioner after every reset but a drive reset (R177). -/
def resetInputs : PerInput InputState where
  safe := InputState.reset
  hand := InputState.reset
  jogF := InputState.reset
  jogR := InputState.reset
  drdy := InputState.reset
  aux := InputState.reset

/-- The Lamp Generator after every reset but a drive reset (R188). -/
def LampBlock.reset : LampBlock := { stepCount := 0, stepTimer := .none }

/-- No input's sample is due: no 1 ms tick has come since (R192). -/
def noSampleDue : PerInput Bool :=
  { safe := false, hand := false, jogF := false, jogR := false, drdy := false, aux := false }

/-- The supply and straps before the first power-up: SUPPLY_OK low, RESETn high, nothing latched yet
(DESIGN CHOICE, log 1). -/
def PowerBlock.unpowered : PowerBlock where
  supplyOk := false
  resetLow := false
  initialising := false
  index := 0
  role := .mid
  refTick := 0
  sampleDue := noSampleDue

end Sys2Proof.Machine
end

