-- ==== Sys2Proof/Machine/Profiles.lean ====
section
/-! DEFINITION. The profile banks as data: the ranges of R141, the forms of R164, sector coverage (R143), lookup (R145),
the law of the active list (R144) and the commit validation (R152). -/

namespace Sys2Proof.Machine

/-! ## The value field (R164) -/

/-- Bytes 2 and 3 of the payload as an unsigned number. -/
def Payload.number (p : Payload) : Nat := (p.b2 ++ p.b3 : Word16).toNat

/-- Bytes 2 and 3 of the payload as a signed number. -/
def Payload.signedNumber (p : Payload) : Int := (p.b2 ++ p.b3 : Word16).toInt

/-- Bytes 4 and 5 of the payload as an unsigned number. -/
def Payload.number2 (p : Payload) : Nat := (p.b4 ++ p.b5 : Word16).toNat

/-- Bytes 6 and 7 of the payload as an unsigned number. -/
def Payload.number3 (p : Payload) : Nat := (p.b6 ++ p.b7 : Word16).toNat

/-- `p` with its value field all 0. -/
def Payload.clearValue (p : Payload) : Payload :=
  { p with b2 := 0, b3 := 0, b4 := 0, b5 := 0, b6 := 0, b7 := 0 }

/-- `p` with a number in bytes 2 and 3 and the rest of the value field 0. -/
def Payload.withWord (p : Payload) (w : Word16) : Payload :=
  { Payload.clearValue p with b2 := highByte w, b3 := lowByte w }

/-- `p` with a byte in byte 2 and the rest of the value field 0. -/
def Payload.withChoice (p : Payload) (b : Byte) : Payload := { Payload.clearValue p with b2 := b }

/-! ## Choices and sets as bytes (R164) -/

/-- The place of a filter choice in its list. -/
def FilterKind.code : FilterKind → Byte
  | .unfiltered => 0
  | .fast => 1
  | .slow => 2

/-- The filter choice a byte names. -/
def filterOf (b : Byte) : Option FilterKind :=
  if b = 0#8 then some .unfiltered else if b = 1#8 then some .fast else if b = 2#8 then some .slow else none

/-- The place of a drive mode in its list. -/
def DriveMode.code : DriveMode → Byte
  | .duty => 0
  | .rate => 1

/-- The drive mode a byte names. -/
def driveModeOf (b : Byte) : Option DriveMode :=
  if b = 0#8 then some .duty else if b = 1#8 then some .rate else none

/-- The place of an AUX_EDGE choice in its list. -/
def AuxEdge.code : AuxEdge → Byte
  | .rising => 0
  | .falling => 1
  | .both => 2

/-- The AUX_EDGE choice a byte names. -/
def auxEdgeOf (b : Byte) : Option AuxEdge :=
  if b = 0#8 then some .rising else if b = 1#8 then some .falling else if b = 2#8 then some .both else none

/-- The action a byte names: 0 LIMIT, 1 HALT, 2 WATCH, 3 LAMP. -/
def actionOf (b : Byte) : Option SectorAction :=
  if b = 0#8 then some .limit else if b = 1#8 then some .halt else if b = 2#8 then some .watch
  else if b = 3#8 then some .lamp else none

/-- The byte of an action. -/
def SectorAction.code : SectorAction → Byte
  | .limit => 0
  | .halt => 1
  | .watch => 2
  | .lamp => 3

/-- A Bool as one bit of a byte. -/
def bitAt (b : Bool) (n : Nat) : Byte := if b then 1#8 <<< n else 0

/-- TRIP_ENABLES as a byte: JOINT, OVER, UNDER, FIELD, STALL at bits 0 to 4. -/
def TripEnables.code (t : TripEnables) : Byte :=
  bitAt t.joint 0 ||| bitAt t.overSpeed 1 ||| bitAt t.underSpeed 2 ||| bitAt t.field 3 ||| bitAt t.stall 4

/-- TRIP_ENABLES from a byte; bits 5 to 7 are ignored (R166). -/
def tripEnablesOf (b : Byte) : TripEnables where
  joint := b.getLsbD 0
  overSpeed := b.getLsbD 1
  underSpeed := b.getLsbD 2
  field := b.getLsbD 3
  stall := b.getLsbD 4

/-- INPUT_POLARITY as a byte: SAFE, HAND, JOG_F, JOG_R, DRDY, AUX at bits 0 to 5, 1 active-low. -/
def polarityCode (x : PerInput Bool) : Byte :=
  bitAt x.safe 0 ||| bitAt x.hand 1 ||| bitAt x.jogF 2 ||| bitAt x.jogR 3 ||| bitAt x.drdy 4 ||| bitAt x.aux 5

/-- INPUT_POLARITY from a byte; bits 6 and 7 are ignored (R166). -/
def polarityOf (b : Byte) : PerInput Bool where
  safe := b.getLsbD 0
  hand := b.getLsbD 1
  jogF := b.getLsbD 2
  jogR := b.getLsbD 3
  drdy := b.getLsbD 4
  aux := b.getLsbD 5

/-- INPUT_FILTER from the six value bytes, one for each input; refused when any is 3 or more (R166). -/
def filtersOf (p : Payload) : Option (PerInput FilterKind) :=
  match filterOf p.b2, filterOf p.b3, filterOf p.b4, filterOf p.b5, filterOf p.b6, filterOf p.b7 with
  | some a, some b, some c, some d, some e, some f =>
    some { safe := a, hand := b, jogF := c, jogR := d, drdy := e, aux := f }
  | _, _, _, _, _, _ => none

/-- A lamp pattern from the value field: steps in bytes 2 and 3 (bits 12 to 15 ignored), length, width; refused when the
length is not 8, 9, 10 or 12 or the width is not 1 to 4 (R151, R164). -/
def patternOf (p : Payload) : Option LampPattern :=
  let len := p.b4.toNat
  let width := p.b5.toNat
  if (len = 8 ∨ len = 9 ∨ len = 10 ∨ len = 12) ∧ 1 ≤ width ∧ width ≤ 4 then
    some { steps := (p.b2 ++ p.b3 : Word16).setWidth 12, length := len, width := width }
  else none

/-- `p` with a lamp pattern in its value field. -/
def Payload.withPattern (p : Payload) (x : LampPattern) : Payload :=
  let w : Word16 := x.steps.setWidth 16
  { Payload.clearValue p with
    b2 := highByte w, b3 := lowByte w, b4 := BitVec.ofNat 8 x.length, b5 := BitVec.ofNat 8 x.width }

/-! ## Reading and writing one parameter (R141, R151, R165, R166) -/

/-- The number of parameters: the ids run from 1 to 34. -/
def paramCount : Nat := 34

/-- `set n` when `n` lies from `lo` to `hi`. -/
def ranged (lo hi n : Nat) (p : Params) : Option Params := if lo ≤ n ∧ n ≤ hi then some p else none

/-- `p` with parameter `id` taken from the value field in the form of R164; none when the value is out of range, and for
an id outside 1 to 34. -/
def writeParamValue (p : Params) (id : Nat) (v : Payload) : Option Params :=
  let n := Payload.number v
  match id with
  | 1 => ranged 10 9999 n { p with radius := n }
  | 2 => ranged 100 9999 n { p with vmax := n }
  | 3 => ranged 0 500 n { p with reserve := n }
  | 4 => ranged 0 5000 n { p with gain := n }
  | 5 => ranged 0 200 n { p with deadband := n }
  | 6 => ranged 500 3000 n { p with jointSpan := n }
  | 7 =>
    if -300 ≤ Payload.signedNumber v ∧ Payload.signedNumber v ≤ 300 then
      some { p with jointOffset := Payload.signedNumber v } else none
  | 8 => ranged 200 20000 n { p with jointPeriodMin := n }
  | 9 => ranged 200 20000 n { p with jointPeriodMax := n }
  | 10 => ranged 50 3000 n { p with warnLimit := n }
  | 11 => ranged 50 3000 n { p with safetyLimit := n }
  | 12 => ranged 1 16 n { p with holdLimit := n }
  | 13 => if n = 8 ∨ n = 16 ∨ n = 24 ∨ n = 32 then some { p with teeth := n } else none
  | 14 => ranged 1000 9999 n { p with circumference := n }
  | 15 => ranged 1000 65000 n { p with stallTicks := n }
  | 16 => ranged 500 1000 n { p with dragThreshold := n }
  | 17 => (driveModeOf v.b2).map fun m => { p with driveMode := m }
  | 18 => ranged 100 1200 n { p with dutyPeriod := n }
  | 19 => ranged 0 100 n { p with minOn := n }
  | 20 => ranged 0 100 n { p with minOff := n }
  | 21 => ranged 1 50 n { p with startTimeout := n }
  | 22 => ranged 0 100 n { p with stopTime := n }
  | 23 => ranged 200 2000 n { p with cyclePeriod := n }
  | 24 => ranged 2 10 n { p with linkMissLimit := n }
  | 25 => ranged 1 8 n { p with returnMissLimit := n }
  | 26 => some { p with tripEnables := tripEnablesOf v.b2 }
  | 27 => some { p with inputPolarity := polarityOf v.b2 }
  | 28 => (filtersOf v).map fun x => { p with inputFilter := x }
  | 29 => (auxEdgeOf v.b2).map fun x => { p with auxEdge := x }
  | 30 => (patternOf v).map fun x => { p with lampRun := x }
  | 31 => (patternOf v).map fun x => { p with lampHold := x }
  | 32 => (patternOf v).map fun x => { p with lampFault := x }
  | 33 => (patternOf v).map fun x => { p with lampSector := x }
  | 34 => ranged 0 1000 n { p with jogDemand := n }
  | _ => none

/-- The payload `v` with the value of parameter `id` in its value field, in the form of R164 (R165). -/
def readParamValue (p : Params) (id : Nat) (v : Payload) : Payload :=
  let num (n : Nat) : Payload := Payload.withWord v (BitVec.ofNat 16 n)
  match id with
  | 1 => num p.radius
  | 2 => num p.vmax
  | 3 => num p.reserve
  | 4 => num p.gain
  | 5 => num p.deadband
  | 6 => num p.jointSpan
  | 7 => Payload.withWord v (BitVec.ofInt 16 p.jointOffset)
  | 8 => num p.jointPeriodMin
  | 9 => num p.jointPeriodMax
  | 10 => num p.warnLimit
  | 11 => num p.safetyLimit
  | 12 => num p.holdLimit
  | 13 => num p.teeth
  | 14 => num p.circumference
  | 15 => num p.stallTicks
  | 16 => num p.dragThreshold
  | 17 => Payload.withChoice v (DriveMode.code p.driveMode)
  | 18 => num p.dutyPeriod
  | 19 => num p.minOn
  | 20 => num p.minOff
  | 21 => num p.startTimeout
  | 22 => num p.stopTime
  | 23 => num p.cyclePeriod
  | 24 => num p.linkMissLimit
  | 25 => num p.returnMissLimit
  | 26 => Payload.withChoice v (TripEnables.code p.tripEnables)
  | 27 => Payload.withChoice v (polarityCode p.inputPolarity)
  | 28 =>
    { v with
      b2 := FilterKind.code p.inputFilter.safe, b3 := FilterKind.code p.inputFilter.hand,
      b4 := FilterKind.code p.inputFilter.jogF, b5 := FilterKind.code p.inputFilter.jogR,
      b6 := FilterKind.code p.inputFilter.drdy, b7 := FilterKind.code p.inputFilter.aux }
  | 29 => Payload.withChoice v (AuxEdge.code p.auxEdge)
  | 30 => Payload.withPattern v p.lampRun
  | 31 => Payload.withPattern v p.lampHold
  | 32 => Payload.withPattern v p.lampFault
  | 33 => Payload.withPattern v p.lampSector
  | 34 => num p.jogDemand
  | _ => v

/-! ## Sector entries -/

/-- The entry covers the angle (R143): from start to stop - 1, or, wrapping, from start to 35999 and from 0 to stop - 1. -/
def Sector.covers (e : Sector) (angle : Nat) : Bool :=
  if e.start < e.stop then decide (e.start ≤ angle ∧ angle < e.stop)
  else decide ((e.start ≤ angle ∧ angle < 36000) ∨ angle < e.stop)

/-- The first entry, from index `i` on, that covers the angle. -/
def findSector (angle : Nat) : Nat → List Sector → Option LookupHit
  | _, [] => none
  | i, e :: es => if Sector.covers e angle then some { index := i, entry := e } else findSector angle (i + 1) es

/-- The lookup of R145 in a list of entries. -/
def lookupIn (entries : List Sector) (angle : Nat) : Option LookupHit := findSector angle 0 entries

/-- An entry whose stop angle is above its start (R144). -/
def Sector.plain (e : Sector) : Bool := decide (e.start < e.stop)

/-- The three tests of R144 on the entries from here on, `first` being the start of entry 0. -/
def orderedFrom (first : Nat) : List Sector → Bool
  | [] => true
  | [e] => Sector.plain e || decide (e.stop ≤ first)
  | e :: e' :: es => Sector.plain e && decide (e.stop ≤ e'.start) && orderedFrom first (e' :: es)

/-- The law of the active list (R144). -/
def listLawful : List Sector → Bool
  | [] => true
  | e :: es => orderedFrom e.start (e :: es) && decide ((e :: es).length ≤ 32)

/-- The entry that WRITE_ENTRY's payload carries (R164), when its values lie within their ranges (R149). -/
def sectorOf (p : Payload) : Option Sector :=
  match actionOf p.b1 with
  | none => none
  | some a =>
    if Payload.number p < 36000 ∧ Payload.number2 p < 36000 ∧ Payload.number p ≠ Payload.number2 p
        ∧ Payload.number3 p ≤ 1000 then
      some { start := Payload.number p, stop := Payload.number2 p, factor := Payload.number3 p, action := a }
    else none

/-- The payload `v` carrying an entry (R167): action in byte 1; start, end and factor in the value field. -/
def Payload.withSector (v : Payload) (e : Sector) : Payload :=
  { b0 := v.b0
    b1 := SectorAction.code e.action
    b2 := highByte (BitVec.ofNat 16 e.start)
    b3 := lowByte (BitVec.ofNat 16 e.start)
    b4 := highByte (BitVec.ofNat 16 e.stop)
    b5 := lowByte (BitVec.ofNat 16 e.stop)
    b6 := highByte (BitVec.ofNat 16 e.factor)
    b7 := lowByte (BitVec.ofNat 16 e.factor) }

/-! ## The commit validation -/

/-- The validation of R152 on a staging bank: R142's four relations and the law of R144. -/
def Profile.commitable (b : Profile) : Bool :=
  Params.complete b.params
    && decide (b.params.jointPeriodMin ≤ b.params.jointPeriodMax)
    && decide (b.params.warnLimit < b.params.safetyLimit)
    && decide (b.params.safetyLimit ≤ b.params.jointSpan)
    && listLawful b.entries

end Sys2Proof.Machine
end

