-- ==== Sys2Proof/Machine/State.lean ====
section
/-! DEFINITION. The whole state of the node, its reset value, the reasons a step can stop, and the named update of each
block. -/

namespace Sys2Proof.Machine

/-- Reasons a step stops the machine. The spec names no condition in which the part stops: every error it describes is
an event, a result or a node state. So there is none, and no command raises one (safe). -/
inductive Fault where
  deriving DecidableEq, Repr

/-- Reasons a command has no meaning. -/
inductive Refusal where
  /-- Raised by an arm of exec whose command has no meaning yet, named as the opcode table spells it (safe: the model
  stops where the part goes on). No arm raises it: every row has its meaning. -/
  | notModelled (mnemonic : String)
  deriving DecidableEq, Repr

/-- The state of one node: the blocks of the data book, the supply and straps, and the queue of commands that wait. -/
structure State where
  power : PowerBlock
  line : LineBlock
  slot : SlotBlock
  ctrl : CtrlBlock
  demand : DemandBlock
  joint : JointBlock
  wheel : WheelBlock
  drive : DriveBlock
  table : TableBlock
  events : EventBlock
  inputs : PerInput InputState
  lamp : LampBlock
  /-- The model's own: the commands that wait, first in, first out. -/
  pending : List Instr
  deriving DecidableEq, Repr

/-- The held reset of R189 with SUPPLY_OK low, every block at its power-on value, no command waiting (log 1). -/
def State.reset : State where
  power := PowerBlock.unpowered
  line := LineBlock.reset
  slot := SlotBlock.reset
  ctrl := CtrlBlock.reset 0
  demand := DemandBlock.reset
  joint := JointBlock.reset
  wheel := WheelBlock.reset
  drive := DriveBlock.reset
  table := TableBlock.reset
  events := EventBlock.reset
  inputs := resetInputs
  lamp := LampBlock.reset
  pending := []

/-! ## One named update per block -/

/-- `s` with its supply and strap block replaced. -/
def State.withPower (s : State) (x : PowerBlock) : State := { s with power := x }

/-- `s` with its Line Interface replaced. -/
def State.withLine (s : State) (x : LineBlock) : State := { s with line := x }

/-- `s` with its Slot Engine replaced. -/
def State.withSlot (s : State) (x : SlotBlock) : State := { s with slot := x }

/-- `s` with its State Controller replaced. -/
def State.withCtrl (s : State) (x : CtrlBlock) : State := { s with ctrl := x }

/-- `s` with its Demand Computer replaced. -/
def State.withDemand (s : State) (x : DemandBlock) : State := { s with demand := x }

/-- `s` with its Joint Capture replaced. -/
def State.withJoint (s : State) (x : JointBlock) : State := { s with joint := x }

/-- `s` with its Wheel Monitor replaced. -/
def State.withWheel (s : State) (x : WheelBlock) : State := { s with wheel := x }

/-- `s` with its Drive Sequencer replaced. -/
def State.withDrive (s : State) (x : DriveBlock) : State := { s with drive := x }

/-- `s` with its Crossing Table replaced. -/
def State.withTable (s : State) (x : TableBlock) : State := { s with table := x }

/-- `s` with its Event Unit replaced. -/
def State.withEvents (s : State) (x : EventBlock) : State := { s with events := x }

/-- `s` with its Input Conditioner replaced. -/
def State.withInputs (s : State) (x : PerInput InputState) : State := { s with inputs := x }

/-- `s` with its Lamp Generator replaced. -/
def State.withLamp (s : State) (x : LampBlock) : State := { s with lamp := x }

/-- `s` with its queue of waiting commands replaced. -/
def State.withPending (s : State) (x : List Instr) : State := { s with pending := x }

end Sys2Proof.Machine
end

