-- ==== Sys2Proof/Machine/Operands.lean ====
section
/-! DEFINITION. What each block reads: the active bank, the levels of the inputs, the node's identity, the limits handed
to the Demand Computer, and the outputs as functions of the state. -/

namespace Sys2Proof.Machine

/-! ## One value per input -/

/-- The value of one input. -/
def PerInput.get {α : Type} (x : PerInput α) : InputName → α
  | .safe => x.safe
  | .hand => x.hand
  | .jogF => x.jogF
  | .jogR => x.jogR
  | .drdy => x.drdy
  | .aux => x.aux

/-- `x` with the value of one input replaced. -/
def PerInput.put {α : Type} (x : PerInput α) (i : InputName) (v : α) : PerInput α :=
  match i with
  | .safe => { x with safe := v }
  | .hand => { x with hand := v }
  | .jogF => { x with jogF := v }
  | .jogR => { x with jogR := v }
  | .drdy => { x with drdy := v }
  | .aux => { x with aux := v }

/-! ## Identity and release (R189 to R191) -/

/-- The part is released: supply good, RESETn high, no initialisation under way. -/
def State.released (s : State) : Bool := s.power.supplyOk && !s.power.resetLow && !s.power.initialising

/-- The latched index is 1 to 30. -/
def State.indexValid (s : State) : Bool := validIndex s.power.index

/-- The latched index as a number. -/
def State.indexNat (s : State) : Nat := s.power.index.toNat

/-- The role is END. -/
def State.isEnd (s : State) : Bool := decide (s.power.role = .endNode)

/-- No line reset waits, and the part is released: a frame that arrives can be taken and a slot or record of it can reach
the node (R22). -/
def State.stagesRun (s : State) : Bool := s.released && s.line.waitingReset.isNone

/-! ## The banks (R140) -/

/-- The active bank. -/
def State.activeBank (s : State) : Profile :=
  match s.table.active with
  | .a => s.table.bankA
  | .b => s.table.bankB

/-- The staging bank. -/
def State.stagingBank (s : State) : Profile :=
  match s.table.active with
  | .a => s.table.bankB
  | .b => s.table.bankA

/-- The parameters every block reads (R140). -/
def State.params (s : State) : Params := s.activeBank.params

/-- The active profile is valid (R157). -/
def State.profileValid (s : State) : Bool := Params.complete s.params

/-- `t` with its staging bank replaced. -/
def TableBlock.withStaging (t : TableBlock) (b : Profile) : TableBlock :=
  match t.active with
  | .a => { t with bankB := b }
  | .b => { t with bankA := b }

/-! ## Inputs (R175) -/

/-- The active level that a polarity gives: active-low is `low`. -/
def activeLevel (activeLow : Bool) : Level := if activeLow then .low else .high

/-- A filtered pin level reads as active under a polarity; not established reads as inactive. -/
def pinActive (activeLow : Bool) (pin : Option Level) : Bool := decide (pin = some (activeLevel activeLow))

/-- The input reads as active. -/
def State.inputActive (s : State) (i : InputName) : Bool :=
  pinActive (PerInput.get s.params.inputPolarity i) (PerInput.get s.inputs i).pin

/-- SAFE reads as active: the overtravel loop is closed. -/
def State.safeActive (s : State) : Bool := s.inputActive .safe

/-- HAND reads as active. -/
def State.handActive (s : State) : Bool := s.inputActive .hand

/-- DRDY reads as active. -/
def State.drdyActive (s : State) : Bool := s.inputActive .drdy

/-- The jog selection (R136): none when both or neither jog input is active. -/
def State.jogSelection (s : State) : Option Direction :=
  match s.inputActive .jogF, s.inputActive .jogR with
  | true, false => some .forward
  | false, true => some .reverse
  | _, _ => none

/-! ## Node state -/

/-- IDLE, RUN and HOLD are the serving states. -/
def NodeState.serving : NodeState → Bool
  | .idle => true
  | .run => true
  | .hold => true
  | _ => false

/-- The states that open the chain (R33): TRIPPED, LOCAL, STANDBY with strap fault. -/
def NodeState.opensChain : NodeState → Bool
  | .tripped => true
  | .manual => true
  | .standby f => f
  | _ => false

/-- The code of the node state in the status (R7). -/
def NodeState.code : NodeState → Byte
  | .standby _ => 0
  | .idle => 1
  | .run => 2
  | .hold => 3
  | .tripped => 4
  | .manual => 5

/-- The hold-cause set is not empty. -/
def HoldCauses.any (h : HoldCauses) : Bool := h.linkLost || h.returnLost || h.chain || h.noSlot

/-- The new state of the table of R45, from a serving state. -/
def State.servingState (s : State) : NodeState :=
  if s.handActive then .manual
  else if !s.slot.runPermit || !s.ctrl.machineRun || !s.profileValid then .idle
  else if HoldCauses.any s.ctrl.holds then .hold
  else .run

/-- The state an evaluation gives (R44, R45). -/
def State.evaluated (s : State) : NodeState :=
  match s.ctrl.node with
  | .standby f => .standby f
  | .idle => s.servingState
  | .run => s.servingState
  | .hold => s.servingState
  | .tripped => if s.handActive then .manual else .tripped
  | .manual => if s.handActive then .manual else if s.ctrl.trip.isSome then .tripped else s.servingState

/-! ## Limits and thresholds -/

/-- The sector factor F (R66). -/
def State.sectorFactor (s : State) : Nat :=
  match s.table.lookup with
  | none => 1000
  | some h => if h.entry.action = .halt ∧ s.slot.haltPass = false then 0 else h.entry.factor

/-- Event STALL's bit is set: rank 5 (R180). -/
def State.stallPending (s : State) : Bool := s.events.flags.getLsbD 4

/-- The stall limit (R111). -/
def State.stallLimit (s : State) : Nat := if s.stallPending ∧ s.ctrl.node ≠ .tripped then 0 else 1000

/-- The tower's own limit L_own (R67). -/
def State.ownLimit (s : State) : Nat := min s.sectorFactor (min s.stallLimit s.wheel.drag)

/-- The lookup result is an entry of this action. -/
def State.inSector (s : State) (a : SectorAction) : Bool :=
  match s.table.lookup with
  | none => false
  | some h => decide (h.entry.action = a)

/-- The stall threshold (R109). -/
def State.stallThreshold (s : State) : Nat :=
  if s.inSector .watch then s.params.stallTicks / 2 else s.params.stallTicks

/-- The measured speed (R114). -/
def State.speed (s : State) : Nat := measuredSpeed s.params s.wheel.period s.wheel.frozen

/-- The expected energized speed (R115). -/
def State.expectedSpeed (s : State) : Nat :=
  match s.params.driveMode with
  | .duty => s.params.vmax
  | .rate => s.params.vmax * s.drive.rateRef / 1000

/-- The length of the frame timeout (R17), in ms. -/
def State.frameTimeoutLength (s : State) : Nat := s.params.cyclePeriod * s.params.linkMissLimit

/-- A timer that starts now for `ms`. -/
def Timer.start (ms : Nat) : Timer := { length := ms, left := ms }

/-- A timer that starts now for a parameter in tenths of a second (R121). -/
def Timer.tenths (n : Nat) : Timer := Timer.start (100 * n)

/-! ## Outputs -/

/-- The drive states that energize DRIVE_RUN (R121). -/
def DriveState.energizes : DriveState → Bool
  | .starting => true
  | .running => true
  | _ => false

/-- DRIVE_RUN is energized. -/
def State.driveRun (s : State) : Bool := s.released && DriveState.energizes s.drive.st

/-- The level of DRIVE_DIR (R121, R189): FORWARD low, REVERSE high; FORWARD while held in reset. -/
def State.driveDir (s : State) : Level :=
  if s.released = true ∧ s.drive.dir = .reverse then .high else .low

/-- RATE_REF's high time in the present 1 ms period, in microseconds (R121); low while held in reset (R189). -/
def State.rateRefPulse (s : State) : Nat := if s.released then s.drive.rateOut else 0

/-- The drive counts as energized for the tick counter (R106). -/
def State.wheelEnergized (s : State) : Bool :=
  DriveState.energizes s.drive.st && (decide (s.params.driveMode = .duty) || decide (0 < s.drive.rateRef))

/-- The pattern the lamp shows (R186); none is LAMP off. -/
def State.lampPattern (s : State) : Option LampPattern :=
  match s.ctrl.node with
  | .run => if s.inSector .lamp then some s.params.lampSector else some s.params.lampRun
  | .idle => some s.params.lampHold
  | .hold => some s.params.lampHold
  | .manual => some s.params.lampHold
  | .tripped => some s.params.lampFault
  | .standby true => some s.params.lampFault
  | .standby false => none

/-- The step a pattern shows at a step count (R186): index floor(count / width) mod length. -/
def LampPattern.lit (x : LampPattern) (count : Word16) : Bool := x.steps.getLsbD (count.toNat / x.width % x.length)

/-- LAMP is on (R186); low while held in reset (R189). -/
def State.lampOn (s : State) : Bool :=
  match s.lampPattern with
  | none => false
  | some x => s.released && LampPattern.lit x s.lamp.stepCount

/-- The bit times a transmit buffer puts on its pair (R4): a frame in sending, else idle. -/
def TxBuffer.bits : TxBuffer → List Bool
  | .sending f => frameBits f
  | .taken _ => []
  | .empty => []

/-- A transmit buffer holds a frame that is being sent. -/
def TxBuffer.isSending : TxBuffer → Bool
  | .sending _ => true
  | _ => false

/-! ## Drive phase (R138) -/

/-- Milliseconds as tenths of a second, a part tenth counted whole. -/
def tenthsUp (ms : Nat) : Nat := (ms + 99) / 100

/-- A timer runs and has no time left: its expiry is due. -/
def timerRunOut : Option Timer → Bool
  | none => false
  | some t => decide (t.left = 0)

/-- The time a timer has left, 0 when stopped. -/
def timeLeft : Option Timer → Nat
  | none => 0
  | some t => t.left

/-- The on-time remaining: the on-time less the time the period timer has run. -/
def DriveBlock.onTimeLeft (x : DriveBlock) : Nat :=
  match x.period with
  | none => 0
  | some t => 100 * x.onTime - (t.length - t.left)

/-- The remaining time of the drive phase in tenths of a second (R138). -/
def State.phaseRemaining (s : State) : Nat :=
  match s.drive.st with
  | .off => 0
  | .starting => tenthsUp (timeLeft s.drive.phase)
  | .running => if s.params.driveMode = .duty ∧ s.drive.jog = false then tenthsUp (DriveBlock.onTimeLeft s.drive) else 0
  | .resting => tenthsUp (max (timeLeft s.drive.period) (timeLeft s.drive.phase))
  | .stopping => tenthsUp (timeLeft s.drive.phase)
  | .faulted => 0

end Sys2Proof.Machine
end

