-- ==== Sys2Proof/Machine/Flags.lean ====
section
/-! DEFINITION. The sixteen event flags and the choice of the top event (R180 to R184), the conditions (R79 to R81) and
the set forms the status and READ_LIVE report. -/

namespace Sys2Proof.Machine

/-- The sixteen events in the order of their ranks (R180). -/
inductive Event where
  | alignTrip
  | safety
  | driveFault
  | sensorLost
  | stall
  | linkLost
  | returnLost
  | chainStop
  | strap
  | alignWarn
  | drag
  | condition
  | handEntry
  | profile
  | lineError
  | aux
  deriving DecidableEq, Repr

/-- The rank of an event (R180); event LOCAL is `handEntry`. -/
def Event.rank : Event → Nat
  | .alignTrip => 1
  | .safety => 2
  | .driveFault => 3
  | .sensorLost => 4
  | .stall => 5
  | .linkLost => 6
  | .returnLost => 7
  | .chainStop => 8
  | .strap => 9
  | .alignWarn => 10
  | .drag => 11
  | .condition => 12
  | .handEntry => 13
  | .profile => 14
  | .lineError => 15
  | .aux => 16

/-- The set with this one event: the event of rank n at bit n - 1 (R7). -/
def Event.bit (e : Event) : Word16 := 1#16 <<< (Event.rank e - 1)

/-- The event is a member of the set. -/
def hasEvent (set : Word16) (e : Event) : Bool := set.getLsbD (Event.rank e - 1)

/-- Raising an event sets its flag (R181). -/
def State.raise (s : State) (e : Event) : State :=
  s.withEvents { s.events with flags := s.events.flags ||| Event.bit e }

/-- Raising an event when a test holds. -/
def State.raiseIf (s : State) (b : Bool) (e : Event) : State := if b then s.raise e else s

/-- The lowest rank of a member of the set, searched from rank `r` over `fuel` ranks; 0 when there is none. -/
def lowestRank (set : Word16) : Nat → Nat → Nat
  | 0, _ => 0
  | fuel + 1, r => if set.getLsbD (r - 1) then r else lowestRank set fuel (r + 1)

/-- The top event code (R183): of the pending enabled events, the lowest rank among the high-priority ones, else the
lowest rank, else 0. -/
def topEvent (x : EventBlock) : Nat :=
  let live := x.flags &&& x.enable
  if live &&& x.high = 0 then lowestRank live 16 1 else lowestRank (live &&& x.high) 16 1

/-! ## Conditions -/

/-- The conditions (R79). -/
inductive Condition where
  | joint
  | overSpeed
  | underSpeed
  | nocap
  | short
  | field
  deriving DecidableEq, Repr

/-- `x` with a condition as a member. -/
def Conditions.add (x : Conditions) : Condition → Conditions
  | .joint => { x with joint := true }
  | .overSpeed => { x with overSpeed := true }
  | .underSpeed => { x with underSpeed := true }
  | .nocap => { x with nocap := true }
  | .short => { x with short := true }
  | .field => { x with field := true }

/-- Raising a condition (R79 to R81): it joins the cause set and the sticky set, and raises event CONDITION. -/
def State.raiseCondition (s : State) (x : Condition) : State :=
  (s.withDemand { s.demand with
    causes := Conditions.add s.demand.causes x, sticky := Conditions.add s.demand.sticky x }).raise .condition

/-- Raising a condition when a test holds. -/
def State.raiseConditionIf (s : State) (b : Bool) (x : Condition) : State := if b then s.raiseCondition x else s

/-- A set of conditions as a byte (R7): JOINT, OVER, UNDER, NOCAP, SHORT, FIELD at bits 0 to 5. -/
def Conditions.code (x : Conditions) : Byte :=
  bitAt x.joint 0 ||| bitAt x.overSpeed 1 ||| bitAt x.underSpeed 2 ||| bitAt x.nocap 3 ||| bitAt x.short 4
    ||| bitAt x.field 5

/-- The hold-cause set as a number (R170): LINK_LOST, RETURN_LOST, CHAIN, NO_SLOT at bits 0 to 3. -/
def HoldCauses.code (h : HoldCauses) : Nat :=
  h.linkLost.toNat + 2 * h.returnLost.toNat + 4 * h.chain.toNat + 8 * h.noSlot.toNat

/-- The code of a trip cause (R7). -/
def TripCause.code : TripCause → Byte
  | .align => 1
  | .safe => 2
  | .stall => 3
  | .sensorLost => 4
  | .driveFault => 5
  | .joint => 6
  | .overSpeed => 7
  | .underSpeed => 8
  | .field => 9

/-- The code of a drive state (R7). -/
def DriveState.code : DriveState → Byte
  | .off => 0
  | .starting => 1
  | .running => 2
  | .resting => 3
  | .stopping => 4
  | .faulted => 5

/-- The code of a last result (R7). -/
def LastResult.code : LastResult → Byte
  | .notYet => 0
  | .done => 1
  | .refused => 2

end Sys2Proof.Machine
end

