-- ==== Sys2Proof/Machine/Ops.lean ====
section
/-! DEFINITION. The shared operations: starting and stopping the drive (R121 to R137), moving between node states and
evaluating them (R44 to R48), trips (R51 to R55), the hold-cause set and the chain hold (R38, R39, R50), the stall
(R109, R110), the resets of all blocks. A block has no exception entry: these take its place. -/

namespace Sys2Proof.Machine

/-! ## The drive: starting -/

/-- The drive enters RUNNING (R125, R128, R136): the phase timer stops, and in RATE mode RATE_REF takes JOG_DEMAND in a
jog and the demand d otherwise. -/
def State.enterRunning (s : State) : State :=
  s.withDrive { s.drive with
    st := .running
    phase := none
    rateRef :=
      match s.params.driveMode with
      | .duty => 0
      | .rate => if s.drive.jog then s.params.jogDemand else s.demand.d }

/-- The drive enters STARTING with RATE_REF at 0 and the phase timer at START_TIMEOUT (R123, R128, R136). -/
def State.beginStarting (s : State) : State :=
  s.withDrive { s.drive with st := .starting, rateRef := 0, phase := some (Timer.tenths s.params.startTimeout) }

/-- A STARTING drive whose DRDY is active enters RUNNING (R125). Every start is followed by it: a start outside a processing
and a jog in the same event, a start by the hand-over when the processing has ended (R122, R138; log 37). -/
def State.takeReady (s : State) : State :=
  if s.drive.st = .starting ∧ s.drdyActive = true then s.enterRunning else s

/-- A DUTY period begins (R123): d is latched, the on-time worked out with SHORT (R124), the direction set from the
direction record, the period timer started, and the drive enters STARTING, or RESTING when the on-time is 0. -/
def State.startDutyPeriod (s : State) : State :=
  let raw := rawOnTime s.demand.d s.params.dutyPeriod
  let onTime := dutyOnTime raw s.params.minOn
  let s1 := s.raiseConditionIf (onTimeShort raw s.params.minOn) .short
  let s2 := s1.withDrive { s1.drive with
    latchedD := s.demand.d
    onTime := onTime
    dir := s.drive.dirRecord
    period := some (Timer.tenths s.params.dutyPeriod) }
  if onTime = 0 then s2.withDrive { s2.drive with st := .resting, phase := none, rateRef := 0 } else s2.beginStarting

/-- A RATE start (R128). -/
def State.startRate (s : State) : State :=
  (s.withDrive { s.drive with dir := s.drive.dirRecord, period := none }).beginStarting

/-- A start under the active DRIVE_MODE when the node is RUN and d is above 0 (R123, R128), which leaves the
drive STARTING; nothing otherwise. -/
def State.startIfDue (s : State) : State :=
  if s.ctrl.node = .run ∧ 0 < s.demand.d then
    match s.params.driveMode with
    | .duty => s.startDutyPeriod
    | .rate => s.startRate
  else s

/-- A jog begins when the node is LOCAL, the drive OFF, a direction selected and no lockout set (R136). -/
def State.startJogIfDue (s : State) : State :=
  if s.ctrl.node = .manual ∧ s.drive.st = .off ∧ s.drive.lockout = false then
    match s.jogSelection with
    | none => s
    | some dir => (s.withDrive { s.drive with dir := dir, jog := true, period := none }).beginStarting.takeReady
  else s

/-! ## The drive: stopping -/

/-- The drive at OFF: timers stopped, RATE_REF 0, the direction change and jog flags cleared (R121, R133). -/
def State.driveOff (s : State) : State :=
  s.withDrive { s.drive with
    st := .off, rateRef := 0, period := none, phase := none, dirChange := false, jog := false }

/-- The arrival at OFF from STOPPING (R133): a start that waits is made. -/
def State.arriveOff (s : State) : State := s.driveOff.startIfDue.takeReady.startJogIfDue

/-- DRIVE_RUN is de-energized and the drive stands in STOPPING with the phase timer at STOP_TIME (R132, R134, R137). -/
def State.haltMotor (s : State) : State :=
  s.withDrive { s.drive with
    st := .stopping, rateRef := 0, period := none, phase := some (Timer.tenths s.params.stopTime) }

/-- The drive enters STOPPING; with STOP_TIME 0 it arrives at OFF in the same event (R133). -/
def State.enterStopping (s : State) : State :=
  if s.params.stopTime = 0 then s.haltMotor.arriveOff else s.haltMotor

/-- The stop of R132, by the drive state. -/
def State.driveStop (s : State) : State :=
  match s.drive.st with
  | .starting => s.enterStopping
  | .running => s.enterStopping
  | .resting => s.driveOff
  | .stopping => s
  | .off => s
  | .faulted => s

/-- The on-time end (R125, R126): DRIVE_RUN de-energized, MIN_OFF started, RESTING; the period timer runs on.
With MIN_OFF 0 the wait ends in no event of its own (DESIGN CHOICE, log 34). -/
def State.endOnTime (s : State) : State :=
  s.withDrive { s.drive with st := .resting, rateRef := 0, phase := some (Timer.tenths s.params.minOff) }

/-- A jog in STARTING or RUNNING ends (R137); the jog flag stays set until OFF. -/
def State.endJog (s : State) : State :=
  if s.drive.jog = true ∧ DriveState.energizes s.drive.st = true then s.enterStopping else s

/-! ## Node states -/

/-- `s` with its node state replaced, and nothing else. -/
def State.withNode (s : State) (n : NodeState) : State := s.withCtrl { s.ctrl with node := n }

/-- d and c become 0 (R48, R78). -/
def State.dropDemand (s : State) : State := s.withDemand { s.demand with d := 0, c := 0 }

/-- At the entry into LOCAL (R61, R136): event LOCAL is raised and the jog lockout cleared. -/
def State.noteLocalEntry (s : State) : State :=
  (s.raise .handEntry).withDrive { s.drive with lockout := false }

/-- The node takes state `n` with all that leaving the old state and entering the new one bring: d and c 0 on leaving
RUN and the drive stopped on leaving RUN or LOCAL (R48, R63, R132) or on a trip (R52), the entry into LOCAL (R61), and
the jog that waits there (R136). Nothing changes when `n` is the state the node has. -/
def State.moveTo (s : State) (n : NodeState) : State :=
  if n = s.ctrl.node then s
  else
    let s1 := s.withNode n
    let s2 := if s.ctrl.node = .run then s1.dropDemand else s1
    let s3 := if n = .manual then s2.noteLocalEntry else s2
    let s4 := if s.ctrl.node = .run ∨ s.ctrl.node = .manual ∨ n = .tripped then s3.driveStop else s3
    if n = .manual then s4.startJogIfDue else s4

/-! ## Trips -/

/-- `r` with one added to its extra count, which stays at 255 (R53). -/
def TripRecord.count (r : TripRecord) : TripRecord := { r with extra := min 255 (r.extra + 1) }

/-- A new trip record: its sequence is that of the last outbound frame taken, which inside a processing is the frame
under processing (R52). -/
def State.newTrip (s : State) (cause : TripCause) : TripRecord := { cause := cause, seq := s.line.lastOut, extra := 0 }

/-- `s` with its trip record replaced. -/
def State.withTrip (s : State) (r : Option TripRecord) : State := s.withCtrl { s.ctrl with trip := r }

/-- STALL and DRIVE_FAULT are taken in LOCAL; the other causes are not (R51). -/
def TripCause.takenInLocal : TripCause → Bool
  | .stall => true
  | .driveFault => true
  | _ => false

/-- A trip request is taken as the node state allows (R51 to R53). A trip from a serving state is followed by the
evaluation of R44, which only HAND can turn (into LOCAL). -/
def State.tripRequest (s : State) (cause : TripCause) : State :=
  match s.ctrl.node with
  | .standby _ => s
  | .idle => let t := (s.withTrip (some (s.newTrip cause))).moveTo .tripped; t.moveTo t.evaluated
  | .run => let t := (s.withTrip (some (s.newTrip cause))).moveTo .tripped; t.moveTo t.evaluated
  | .hold => let t := (s.withTrip (some (s.newTrip cause))).moveTo .tripped; t.moveTo t.evaluated
  | .tripped => s.withTrip (s.ctrl.trip.map TripRecord.count)
  | .manual =>
    if TripCause.takenInLocal cause then
      match s.ctrl.trip with
      | none => s.withTrip (some (s.newTrip cause))
      | some r => s.withTrip (some (TripRecord.count r))
    else s

/-- A request made when a test holds. -/
def State.tripRequestIf (s : State) (b : Bool) (cause : TripCause) : State := if b then s.tripRequest cause else s

/-- A SAFE request: event SAFETY and a trip request of cause SAFE (R55). -/
def State.safeRequest (s : State) : State := (s.raise .safety).tripRequest .safe

/-! ## Evaluation -/

/-- An evaluation (R44, R45). When it takes the node into a serving state from one that is not, with SAFE inactive, the
SAFE trip follows at once (R45, R55). -/
def State.evaluate (s : State) : State :=
  let n := s.evaluated
  let t := s.moveTo n
  if NodeState.serving n = true ∧ NodeState.serving s.ctrl.node = false ∧ t.safeActive = false then t.safeRequest else t

/-- The first evaluation of stage 4: plain STANDBY is left for IDLE and the evaluation continues from there (R46); a
serving state with SAFE inactive trips (R46, R178). -/
def State.firstEvaluate (s : State) : State :=
  let s0 := if s.ctrl.node = .standby false then s.withNode .idle else s
  let n := s0.evaluated
  let t := s0.moveTo n
  if NodeState.serving n = true ∧ t.safeActive = false then t.safeRequest else t

/-- The hold-cause set becomes `h`; a change brings an evaluation (R44, R50). -/
def State.setHolds (s : State) (h : HoldCauses) : State :=
  if h = s.ctrl.holds then s else (s.withCtrl { s.ctrl with holds := h }).evaluate

/-- CHAIN enters the hold-cause set when it is absent; CHAIN_STOP is raised unless this node is the opener (R38). -/
def State.enterChain (s : State) (opener : Bool) : State :=
  if s.ctrl.holds.chain then s
  else (s.raiseIf (!opener) .chainStop).setHolds { s.ctrl.holds with chain := true }

/-- CHAIN leaves the hold-cause set (R39). -/
def State.releaseChain (s : State) : State := s.setHolds { s.ctrl.holds with chain := false }

/-- The entry into STANDBY with strap fault on the line (R26, R47): the trip record is discarded, leaving RUN or LOCAL
has its effects, and a FAULTED drive goes to OFF (R131). -/
def State.enterStrapFault (s : State) : State :=
  let t := (s.withTrip none).moveTo (.standby true)
  if t.drive.st = .faulted then t.driveOff else t

/-! ## Drive faults -/

/-- The drive enters FAULTED (R125, R130, R131), event DRIVE_FAULT is raised and a DRIVE_FAULT trip is requested. -/
def State.faultDrive (s : State) : State :=
  ((s.withDrive { s.drive with
    st := .faulted, rateRef := 0, period := none, phase := none, dirChange := false, jog := false }).raise
      .driveFault).tripRequest .driveFault

/-! ## Stall -/

/-- What a clear of STALL and an accepted drive reset do to the measurement (R112, R113). -/
def WheelBlock.restart (w : WheelBlock) : WheelBlock :=
  { w with counter := 0, armed := false, period := 0, frozen := false }

/-- STALL is raised (R110): the freeze, the event, the request when STALL is trip-enabled, and the end of a jog, after
which the lockout keeps the jog from beginning again (R137). -/
def State.raiseStall (s : State) : State :=
  let s1 := (s.withWheel { s.wheel with frozen := true }).raise .stall
  let s2 := s1.tripRequestIf s1.params.tripEnables.stall .stall
  if s2.ctrl.node = .manual ∧ DriveState.energizes s2.drive.st = true then
    (s2.withDrive { s2.drive with lockout := true }).endJog
  else s2

/-- The stall test (R109). -/
def State.stallTest (s : State) : State :=
  if s.wheel.frozen = false ∧ s.stallThreshold ≤ s.wheel.counter then s.raiseStall else s

/-! ## Resets -/

/-- Every block of the node at its state after a reset other than a drive reset. `keepTable` is the SOFT line reset,
which keeps the Crossing Table and the pending commit indication (R42, R158, R174). -/
def State.resetBlocks (s : State) (keepTable : Bool) : State where
  power := s.power
  line := LineBlock.reset
  slot := if keepTable then { SlotBlock.reset with pendingCommit := s.slot.pendingCommit } else SlotBlock.reset
  ctrl := CtrlBlock.reset s.power.index
  demand := DemandBlock.reset
  joint := JointBlock.reset
  wheel := WheelBlock.reset
  drive := DriveBlock.reset
  table := if keepTable then s.table else TableBlock.reset
  events := EventBlock.reset
  inputs := resetInputs
  lamp := LampBlock.reset
  pending := s.pending

end Sys2Proof.Machine
end

