-- ==== Sys2Proof/Machine/Inputs.lean ====
section
/-! DEFINITION. The Input Conditioner: the filters (R175 to R177), the hand-over of a change to its reader (R179), what a
profile swap does to it (R178), and the commands INPUT_SAMPLE and INPUT_CHANGE. -/

namespace Sys2Proof.Machine

/-! ## Handing a change to the block that reads it (R179) -/

/-- A change of SAFE (R55): becoming inactive is a request in a serving state and in TRIPPED, and raises SAFETY alone in
LOCAL; becoming active brings an evaluation, which SAFE does not enter. -/
def State.safeChange (s : State) (nowActive : Bool) : State :=
  if nowActive then s.evaluate
  else
    match s.ctrl.node with
    | .standby _ => s
    | .manual => s.raise .safety
    | .idle => s.safeRequest
    | .run => s.safeRequest
    | .hold => s.safeRequest
    | .tripped => s.safeRequest

/-- A change of a jog input (R136, R137): one to active with the drive OFF clears the lockout; in LOCAL a jog whose
direction is no longer selected ends, and a jog that is due begins. -/
def State.jogChange (s : State) (nowActive : Bool) : State :=
  let t := if nowActive = true ∧ s.drive.st = .off then s.withDrive { s.drive with lockout := false } else s
  if t.ctrl.node = .manual then
    if DriveState.energizes t.drive.st = true ∧ t.jogSelection ≠ some t.drive.dir then t.endJog else t.startJogIfDue
  else t

/-- A change of DRDY (R125, R128, R130): active ends STARTING, inactive faults RUNNING. -/
def State.drdyChange (s : State) (nowActive : Bool) : State :=
  if nowActive then s.takeReady
  else (if s.drive.st = .running then s.faultDrive else s)

/-- AUX_EDGE selects a change of this sense (R179). -/
def AuxEdge.selects (x : AuxEdge) (nowActive : Bool) : Bool :=
  match x with
  | .rising => nowActive
  | .falling => !nowActive
  | .both => true

/-- A change of the active or inactive reading of an input is handed to its reader (R179). -/
def State.handOver (s : State) (i : InputName) (nowActive : Bool) : State :=
  match i with
  | .safe => s.safeChange nowActive
  | .hand => s.evaluate
  | .jogF => s.jogChange nowActive
  | .jogR => s.jogChange nowActive
  | .drdy => s.drdyChange nowActive
  | .aux => s.raiseIf (AuxEdge.selects s.params.auxEdge nowActive) .aux

/-! ## The filtered pin level -/

/-- `s` with what the Input Conditioner holds for one input replaced. -/
def State.withInput (s : State) (i : InputName) (x : InputState) : State := s.withInputs (PerInput.put s.inputs i x)

/-- The filtered pin level of an input becomes `level` (R176, R177). When the active reading changes it is handed over;
establishment is never an AUX edge. -/
def State.setPin (s : State) (i : InputName) (level : Level) : State :=
  let x := PerInput.get s.inputs i
  if x.pin = some level then s
  else
    let t := s.withInput i { x with pin := some level }
    if t.inputActive i = s.inputActive i then t
    else if i = .aux ∧ x.pin = none then t
    else t.handOver i (t.inputActive i)

/-- The run after one more sample (R176): the count rises and stops at 3, or a new run begins. -/
def nextRun (run : Option SampleRun) (level : Level) : SampleRun :=
  match run with
  | none => { level := level, count := 1 }
  | some r => if r.level = level then { level := level, count := min 3 (r.count + 1) } else { level := level, count := 1 }

/-- The sample changes the filtered pin level (R176, R177): a run of three, or with NONE, once established, any sample of
the other level. -/
def sampleTakes (filter : FilterKind) (pin : Option Level) (run : SampleRun) : Bool :=
  decide (run.count = 3) || (decide (filter = .unfiltered) && pin.isSome)

/-- One sample of an input (R176): the run is updated, and the filtered pin level with it. -/
def State.sampleInput (s : State) (i : InputName) (level : Level) : State :=
  let x := PerInput.get s.inputs i
  let run := nextRun x.samples level
  let t := s.withInput i { x with samples := some run }
  if sampleTakes (PerInput.get s.params.inputFilter i) x.pin run then t.setPin i level else t

/-! ## A profile swap (R178) -/

/-- SAFE turned over by a swap, as it acts at the swap: in a serving state event SAFETY is raised and the request waits for
stage 4 (R178, log 11); otherwise as any change. -/
def State.safeTurn (s : State) (nowActive : Bool) : State :=
  if nowActive = false ∧ NodeState.serving s.ctrl.node = true then s.raise .safety else s.safeChange nowActive

/-- The AUX_EDGE that judges a turn of AUX at a swap from `old` to the active bank (R178, R179): the one both banks hold,
and a free choice when they differ (log 12). -/
def State.auxTurnEdge (s : State) (old : AuxEdge) : AuxEdge :=
  if old = s.params.auxEdge then old else if Config.auxTurnByNewEdge then s.params.auxEdge else old

/-- What a swap from the parameters `old` does to one input (R178): a changed filter empties the sample run; a changed
polarity turns the reading of an established input over. -/
def State.inputAtSwap (s : State) (old : Params) (i : InputName) : State :=
  let x := PerInput.get s.inputs i
  let t :=
    if PerInput.get old.inputFilter i = PerInput.get s.params.inputFilter i then s
    else s.withInput i { x with samples := none }
  if PerInput.get old.inputPolarity i = PerInput.get s.params.inputPolarity i ∨ x.pin = none then t
  else
    match i with
    | .safe => t.safeTurn (t.inputActive .safe)
    | .aux => t.raiseIf (AuxEdge.selects (t.auxTurnEdge old.auxEdge) (t.inputActive .aux)) .aux
    | .hand => t.handOver .hand (t.inputActive .hand)
    | .jogF => t.handOver .jogF (t.inputActive .jogF)
    | .jogR => t.handOver .jogR (t.inputActive .jogR)
    | .drdy => t.handOver .drdy (t.inputActive .drdy)

/-- The six inputs as each acts at a swap, in the order SAFE, HAND, JOG_F, JOG_R, DRDY, AUX (log 10). -/
def State.inputTurns (s : State) (old : Params) : State :=
  (((((s.inputAtSwap old .safe).inputAtSwap old .hand).inputAtSwap old .jogF).inputAtSwap old .jogR).inputAtSwap old
    .drdy).inputAtSwap old .aux

/-- The swap from `old` turns an established SAFE inactive in a serving state, so that its request waits for stage 4
(R178). -/
def State.safeWaits (s : State) (old : Params) : Bool :=
  NodeState.serving s.ctrl.node && decide (old.inputPolarity.safe ≠ s.params.inputPolarity.safe)
    && s.inputs.safe.pin.isSome && !s.safeActive

/-- The Input Conditioner at a swap (R178). A SAFE request that waits finds the trip record present when another input of
the same swap has tripped the node, and adds to its extra count (R53, R55); in a serving state the first evaluation of stage
4 makes it, and in LOCAL it is not taken (log 11). -/
def State.inputsAtSwap (s : State) (old : Params) : State :=
  let t := s.inputTurns old
  t.tripRequestIf (s.safeWaits old && decide (t.ctrl.node = .tripped)) .safe

/-! ## Commands -/

/-- A filter samples at the tick that brought the reference count here (R175): SLOW at every twentieth, FAST and NONE at
each. -/
def FilterKind.samplesAt (x : FilterKind) (refTick : Nat) : Bool :=
  match x with
  | .unfiltered => true
  | .fast => true
  | .slow => decide (refTick = 0)

/-- The sample clock of an input stands at the present tick, and its sample is still to be made (R175, log 26). -/
def State.sampleClock (s : State) (i : InputName) : Bool :=
  PerInput.get s.power.sampleDue i && FilterKind.samplesAt (PerInput.get s.params.inputFilter i) s.power.refTick

/-- `s` with the sample of this input made at the present tick. -/
def State.markSampled (s : State) (i : InputName) : State :=
  s.withPower { s.power with sampleDue := PerInput.put s.power.sampleDue i false }

/-- INPUT_SAMPLE (R175, R176): one sample of an input at its sample clock; away from it nothing is sampled (log 2). -/
def execInputSample (i : InputName) (level : Level) (s : State) : Host.Outcome State Fault Refusal :=
  .next (if s.released = true ∧ s.sampleClock i = true then (s.markSampled i).sampleInput i level else s)

/-- INPUT_CHANGE (R179): the filter takes the input to this pin level, by a run of three samples of it (log 20). A level
the filter already holds is no change, and the state stays (log 2). -/
def execInputChange (i : InputName) (level : Level) (s : State) : Host.Outcome State Fault Refusal :=
  .next
    (if s.released = true ∧ (PerInput.get s.inputs i).pin ≠ some level then
      (s.withInput i { PerInput.get s.inputs i with samples := some { level := level, count := 3 } }).setPin i level
    else s)

end Sys2Proof.Machine
end

