-- ==== Sys2Proof/Machine/LineCommands.lean ====
section
/-! DEFINITION. The span line between the stages: arrival, waiting and overrun (R10 to R13), the end of a transmission
(R12), the inbound take and latch (R15, R20, R36, R38, R39), the frame timeout (R17, R18), and their commands. -/

namespace Sys2Proof.Machine

/-! ## Arrival -/

/-- The transmit buffer by which a valid frame that arrived on this link leaves (R12): true is the inner one. -/
def State.leavesInner (s : State) (link : Link) : Bool :=
  match link with
  | .inner => s.isEnd
  | .outer => true

/-- The transmit buffer of a link. -/
def LineBlock.tx (x : LineBlock) : Link → TxBuffer
  | .inner => x.txInner
  | .outer => x.txOuter

/-- `x` with the transmit buffer of a link replaced. -/
def LineBlock.withTx (x : LineBlock) (link : Link) (b : TxBuffer) : LineBlock :=
  match link with
  | .inner => { x with txInner := b }
  | .outer => { x with txOuter := b }

/-- The frame waiting in the receive buffer of a link. -/
def LineBlock.waiting (x : LineBlock) : Link → Option Frame
  | .inner => x.rxInner
  | .outer => x.rxOuter

/-- `x` with the waiting place of a link replaced. -/
def LineBlock.withWaiting (x : LineBlock) (link : Link) (f : Option Frame) : LineBlock :=
  match link with
  | .inner => { x with rxInner := f }
  | .outer => { x with rxOuter := f }

/-- The forwarding direction of a valid frame, by the link it arrived on (R12). -/
def State.forwardLink (s : State) (link : Link) : Link := if s.leavesInner link then .inner else .outer

/-- The frame timeout starts or restarts (R17). -/
def State.restartFrameTimer (s : State) : State :=
  s.withLine { s.line with frameTimer := some (Timer.start s.frameTimeoutLength) }

/-- The arrival of a valid outbound frame (R17, R18): LINK_LOST is cleared and the timer restarts. -/
def State.outboundArrival (s : State) : State :=
  (s.setHolds { s.ctrl.holds with linkLost := false }).restartFrameTimer

/-- A valid frame is taken, waits, or displaces an older waiting frame as an overrun with LINE_ERROR (R12, R13). -/
def State.placeFrame (s : State) (link : Link) (f : Frame) : State :=
  match LineBlock.waiting s.line link with
  | some _ => (s.withLine (LineBlock.withWaiting s.line link (some f))).raise .lineError
  | none =>
    if LineBlock.tx s.line (s.forwardLink link) = .empty then
      s.withLine (LineBlock.withTx s.line (s.forwardLink link) (.taken f))
    else s.withLine (LineBlock.withWaiting s.line link (some f))

/-- A frame delimited on a link is discarded with one LINE_ERROR (R10; at END's outer link whatever its contents, R11),
or placed, a valid outbound one restarting the timeout. -/
def State.arriveFrame (s : State) (link : Link) (burst : List RxByte) : State :=
  if (s.isEnd = true ∧ link = .outer) ∨ acceptable link burst = false then s.raise .lineError
  else
    match link with
    | .inner => s.outboundArrival.placeFrame .inner (storedBytes burst)
    | .outer => s.placeFrame .outer (storedBytes burst)

/-- FRAME_ARRIVAL (R10): while a line reset waits, the frame is dropped without the tests (R22); while held in reset the
receivers ignore the line (R21). -/
def execFrameArrival (link : Link) (burst : List RxByte) (s : State) : Host.Outcome State Fault Refusal :=
  .next (if s.stagesRun then s.arriveFrame link burst else s)

/-! ## The end of a transmission -/

/-- The link whose waiting frame leaves by this transmit pair (R12): at MID the other link's, at END the inner's. -/
def State.sourceLink (s : State) (link : Link) : Link :=
  match link with
  | .outer => .inner
  | .inner => if s.isEnd then .inner else .outer

/-- A frame that waits for this transmit buffer is taken (R12). -/
def State.takeWaiting (s : State) (link : Link) : State :=
  match LineBlock.waiting s.line (s.sourceLink link) with
  | none => s
  | some f =>
    s.withLine (LineBlock.withTx (LineBlock.withWaiting s.line (s.sourceLink link) none) link (.taken f))

/-- The last byte has left (R12): the buffer empties and a waiting frame is taken, but for a waiting line reset (R22). END
does not drive its outer pair (R11). -/
def State.finishSending (s : State) (link : Link) : State :=
  let t := s.withLine (LineBlock.withTx s.line link .empty)
  if s.line.waitingReset.isNone then t.takeWaiting link else t

/-- TRANSMIT_COMPLETE (R12): of the frame being sent on this link; with none nothing happens (log 2). -/
def execTransmitComplete (link : Link) (s : State) : Host.Outcome State Fault Refusal :=
  .next (if s.released = true ∧ TxBuffer.isSending (LineBlock.tx s.line link) = true then s.finishSending link else s)

/-! ## The inbound take -/

/-- The frame matches the return record (R20): the record holds its sequence marked not returned. -/
def State.returnMatches (s : State) (f : Frame) : Bool :=
  decide (s.line.returnRec = some { seq := frameSeq f, returned := false })

/-- The inbound latch (R36, R38, R39): ceiling and chain are latched; OPEN enters CHAIN, CLOSED after a CLOSED outbound
releases it. -/
def State.latchInbound (s : State) (f : Frame) : State :=
  let t := s.withSlot { s.slot with ceiling := min 1000 (frameCeiling f), chainOpen := frameChainOpen f }
  if frameChainOpen f then t.enterChain (decide (s.slot.outChain = .openedHere))
  else if s.slot.outChain = .closed then t.releaseChain
  else t

/-- A matching return (R20): the record is marked, the count 0, RETURN_LOST cleared, the header latched. -/
def State.acceptReturn (s : State) (f : Frame) : State :=
  let t := s.withLine { s.line with
    returnRec := some { seq := frameSeq f, returned := true }, missCount := 0 }
  (t.setHolds { t.ctrl.holds with returnLost := false }).latchInbound f

/-- A taken inbound frame (R15, R20): latched when it matches, and sent unchanged either way. -/
def State.takeInbound (s : State) (f : Frame) : State :=
  let t := if s.returnMatches f then s.acceptReturn f else s
  t.withLine { t.line with txInner := .sending f }

/-- INBOUND_TAKE (R20): of the inbound frame taken at a MID node; with none nothing happens (log 2). A frame taken before
a line reset was ordered is still matched and sent (R22, log 16). -/
def execInboundTake (s : State) : Host.Outcome State Fault Refusal :=
  .next
    (if s.released = true ∧ s.isEnd = false then
      match s.line.txInner with
      | .taken f => s.takeInbound f
      | .empty => s
      | .sending _ => s
    else s)

/-! ## The frame timeout -/

/-- The expiry (R18): LINK_LOST is raised and enters the hold-cause set, and the timer starts again. -/
def State.expireFrameTimer (s : State) : State :=
  ((s.raise .linkLost).setHolds { s.ctrl.holds with linkLost := true }).restartFrameTimer

/-- FRAME_TIMEOUT (R18): the expiry of the timer that has run out; no other expires (log 2, log 3). -/
def execFrameTimeout (s : State) : Host.Outcome State Fault Refusal :=
  .next (if s.released = true ∧ timerRunOut s.line.frameTimer = true then s.expireFrameTimer else s)

end Sys2Proof.Machine
end

