-- ==== Sys2Proof/Machine/Service.lean ====
section
/-! DEFINITION. The service records (Service Records, R160 to R172): addressing, every operation's judgement and effect,
and the eleven service commands. -/

namespace Sys2Proof.Machine

/-! ## Results (R8) -/

/-- 01h DONE. -/
def resultDone : Byte := 0x01#8

/-- 02h REFUSED_RANGE. -/
def resultRange : Byte := 0x02#8

/-- 03h REFUSED_INDEX. -/
def resultIndex : Byte := 0x03#8

/-- 04h REFUSED_STATE. -/
def resultState : Byte := 0x04#8

/-- 05h UNKNOWN_OP. -/
def resultUnknownOp : Byte := 0x05#8

/-- 06h UNKNOWN_ITEM. -/
def resultUnknownItem : Byte := 0x06#8

/-- What an operation gives: the state it leaves, the result and the payload. -/
structure Answer where
  state : State
  result : Byte
  payload : Payload

/-- A refusal (R163): the state and the payload stay as they were. -/
def refuse (s : State) (p : Payload) (result : Byte) : Answer := { state := s, result := result, payload := p }

/-- The bank a selector byte names (R164): 0 ACTIVE, 1 STAGING. -/
def State.bankNamed (s : State) (selector : Byte) : Option Profile :=
  if selector = 0#8 then some s.activeBank else if selector = 1#8 then some s.stagingBank else none

/-- The id names a parameter (R141). -/
def paramIdValid (id : Nat) : Bool := decide (1 ≤ id ∧ id ≤ paramCount)

/-- `s` with its staging bank replaced. -/
def State.withStaging (s : State) (b : Profile) : State := s.withTable (TableBlock.withStaging s.table b)

/-! ## The operations -/

/-- READ_PARAM (R165). -/
def State.opReadParam (s : State) (item : Nat) (p : Payload) : Answer :=
  if paramIdValid item then
    match s.bankNamed p.b0 with
    | none => refuse s p resultRange
    | some b => { state := s, result := resultDone, payload := readParamValue b.params item { p with b1 := 0 } }
  else refuse s p resultUnknownItem

/-- WRITE_PARAM (R151, R166). -/
def State.opWriteParam (s : State) (item : Nat) (p : Payload) : Answer :=
  if paramIdValid item then
    match writeParamValue s.stagingBank.params item p with
    | none => refuse s p resultRange
    | some q => { state := s.withStaging { s.stagingBank with params := q }, result := resultDone, payload := p }
  else refuse s p resultUnknownItem

/-- READ_ENTRY (R167). -/
def State.opReadEntry (s : State) (item : Nat) (p : Payload) : Answer :=
  match s.bankNamed p.b0 with
  | none => refuse s p resultRange
  | some b =>
    match b.entries[item]? with
    | none => refuse s p resultIndex
    | some e => { state := s, result := resultDone, payload := Payload.withSector p e }

/-- The staging list with entry `i` overwritten, or `e` appended when `i` is the count (R149). -/
def putEntry (entries : List Sector) (i : Nat) (e : Sector) : List Sector :=
  if i < entries.length then entries.set i e else entries ++ [e]

/-- WRITE_ENTRY (R149, R167): the index first, then the payload. -/
def State.opWriteEntry (s : State) (item : Nat) (p : Payload) : Answer :=
  if item ≤ s.stagingBank.entries.length ∧ item < 32 then
    match sectorOf p with
    | none => refuse s p resultRange
    | some e =>
      { state := s.withStaging { s.stagingBank with entries := putEntry s.stagingBank.entries item e }
        result := resultDone
        payload := p }
  else refuse s p resultIndex

/-- TRIM_ENTRIES (R150). -/
def State.opTrimEntries (s : State) (item : Nat) (p : Payload) : Answer :=
  if item ≤ s.stagingBank.entries.length then
    { state := s.withStaging { s.stagingBank with entries := s.stagingBank.entries.take item }
      result := resultDone
      payload := p }
  else refuse s p resultIndex

/-- STAGE_FROM_ACTIVE (R150). -/
def State.opStageFromActive (s : State) (p : Payload) : Answer :=
  { state := s.withStaging s.activeBank, result := resultDone, payload := p }

/-- COMMIT (R152 to R154): a staging bank that passes sets the pending swap and the pending commit indication; one that
fails records REFUSED and raises PROFILE. -/
def State.opCommit (s : State) (p : Payload) : Answer :=
  if Profile.commitable s.stagingBank then
    { state := (s.withTable { s.table with pendingSwap := true }).withSlot { s.slot with pendingCommit := true }
      result := resultDone
      payload := p }
  else
    { state := (s.withTable { s.table with lastCommit := .refused }).raise .profile
      result := resultState
      payload := p }

/-- SET_EVENTS (R169). -/
def State.opSetEvents (s : State) (p : Payload) : Answer :=
  { state := s.withEvents { s.events with enable := p.b2 ++ p.b3, high := p.b4 ++ p.b5 }
    result := resultDone
    payload := p }

/-- The live values (R170): none for an unknown id; an absent value is `some none`. Each is read as it stands: at END, whose
latch comes after stage 8 (R37), the ceiling and chain are those latched at the frame before (DESIGN CHOICE, log 36). -/
def State.liveValue (s : State) (id : Nat) : Option (Option Word16) :=
  let num (n : Nat) : Option (Option Word16) := some (some (BitVec.ofNat 16 n))
  match id with
  | 1 => num s.slot.ceiling
  | 2 => num s.slot.chainOpen.toNat
  | 3 => num (HoldCauses.code s.ctrl.holds)
  | 4 => num s.line.missCount
  | 5 => num s.joint.holdCount
  | 6 => some (some (BitVec.ofInt 16 s.joint.lastTheta))
  | 7 => num s.wheel.period
  | 8 => num s.wheel.counter
  | 9 => num (s.phaseRemaining)
  | 10 => num (Conditions.code s.demand.sticky).toNat
  | 11 => some (s.table.lookup.map fun h => BitVec.ofNat 16 h.index)
  | 12 => num (if s.slot.swapMade then 2 else 0)
  | 13 => some (s.ctrl.trip.map fun r => r.seq)
  | _ => none

/-- READ_LIVE (R170, R171). -/
def State.opReadLive (s : State) (item : Nat) (p : Payload) : Answer :=
  match s.liveValue item with
  | none => refuse s p resultUnknownItem
  | some none =>
    { state := s, result := resultDone, payload := { Payload.clearValue p with b0 := 0, b1 := 0 } }
  | some (some w) =>
    { state := s, result := resultDone, payload := { Payload.withWord p w with b0 := 1, b1 := 0 } }

/-- The kind of line reset a byte names (R172): 0 HARD, 1 SOFT. -/
def resetKindOf (b : Byte) : Option LineResetKind :=
  if b = 0#8 then some .hard else if b = 1#8 then some .soft else none

/-- LINE_RESET (R172): a valid kind orders the reset, which then waits for the frame to leave (R173). -/
def State.opLineReset (s : State) (p : Payload) : Answer :=
  match resetKindOf p.b0 with
  | none => refuse s p resultRange
  | some k => { state := s.withLine { s.line with waitingReset := some k }, result := resultDone, payload := p }

/-- The operation a record asks for (R163). -/
def State.operate (s : State) (op : Byte) (item : Word16) (p : Payload) : Answer :=
  match op.toNat with
  | 1 => s.opReadParam item.toNat p
  | 2 => s.opWriteParam item.toNat p
  | 3 => s.opReadEntry item.toNat p
  | 4 => s.opWriteEntry item.toNat p
  | 5 => s.opTrimEntries item.toNat p
  | 6 => s.opStageFromActive p
  | 7 => s.opCommit p
  | 8 => s.opSetEvents p
  | 9 => s.opReadLive item.toNat p
  | 10 => s.opLineReset p
  | _ => refuse s p resultUnknownOp

/-! ## Addressing and stage 8 -/

/-- The operation is broadcastable (R160): COMMIT and LINE_RESET. -/
def broadcastable (op : Byte) : Bool := decide (op.toNat = 7 ∨ op.toNat = 10)

/-- The record is addressed to the node by its valid index (R160). -/
def State.addressed (s : State) (target : Byte) : Bool := s.indexValid && decide (target.toNat = s.indexNat)

/-- The record reaches the node as a broadcast it acts on (R160). -/
def State.broadcastTo (s : State) (target op : Byte) : Bool :=
  s.indexValid && decide (target.toNat = 31) && broadcastable op

/-- A service record is handled (R160 to R163): by index the node acts and writes the answer, by broadcast it acts and
writes nothing, else it does neither. -/
def State.serve (s : State) (r : ServiceRecord) : State × ServiceRecord :=
  if s.addressed r.target then
    let a := s.operate r.op r.item r.payload
    (a.state, { r with result := a.result, payload := a.payload })
  else if s.broadcastTo r.target r.op then ((s.operate r.op r.item r.payload).state, r)
  else (s, r)

/-- The record that carries a request with operation `op`; the result byte is sent as 00h (R8). -/
def recordOf (op : Byte) (q : Request) : ServiceRecord where
  target := q.target
  op := op
  tag := q.tag
  result := 0
  item := q.item
  payload := q.payload

/-- The operations that reach the staging bank or judge it: 02h and 04h to 07h. No record is handled while a swap is
pending (R148), so none of them then. -/
def touchesStaging (op : Byte) : Bool := decide (op.toNat = 2 ∨ (4 ≤ op.toNat ∧ op.toNat ≤ 7))

/-- A service command: the record is handled as stage 8 handles it, and stands answered in the model's own field
(log 8). It reaches the node only where stage 8 can (R22), and the staging bank only with no swap pending (log 9). -/
def State.serveCommand (s : State) (op : Byte) (q : Request) : State :=
  if s.stagesRun = true ∧ ¬(touchesStaging op = true ∧ s.table.pendingSwap = true) then
    let x := s.serve (recordOf op q)
    x.1.withSlot { x.1.slot with record := some x.2 }
  else s

/-! ## Commands -/

/-- READ_PARAM, operation 01h (R165). -/
def execReadParam (q : Request) (s : State) : Host.Outcome State Fault Refusal := .next (s.serveCommand 0x01#8 q)

/-- WRITE_PARAM, operation 02h (R151, R166). -/
def execWriteParam (q : Request) (s : State) : Host.Outcome State Fault Refusal := .next (s.serveCommand 0x02#8 q)

/-- READ_ENTRY, operation 03h (R167). -/
def execReadEntry (q : Request) (s : State) : Host.Outcome State Fault Refusal := .next (s.serveCommand 0x03#8 q)

/-- WRITE_ENTRY, operation 04h (R149, R167). -/
def execWriteEntry (q : Request) (s : State) : Host.Outcome State Fault Refusal := .next (s.serveCommand 0x04#8 q)

/-- TRIM_ENTRIES, operation 05h (R150, R167). -/
def execTrimEntries (q : Request) (s : State) : Host.Outcome State Fault Refusal := .next (s.serveCommand 0x05#8 q)

/-- STAGE_FROM_ACTIVE, operation 06h (R150, R167). -/
def execStageFromActive (q : Request) (s : State) : Host.Outcome State Fault Refusal := .next (s.serveCommand 0x06#8 q)

/-- COMMIT, operation 07h (R152 to R154, R168). -/
def execCommit (q : Request) (s : State) : Host.Outcome State Fault Refusal := .next (s.serveCommand 0x07#8 q)

/-- SET_EVENTS, operation 08h (R169). -/
def execSetEvents (q : Request) (s : State) : Host.Outcome State Fault Refusal := .next (s.serveCommand 0x08#8 q)

/-- READ_LIVE, operation 09h (R170, R171). -/
def execReadLive (q : Request) (s : State) : Host.Outcome State Fault Refusal := .next (s.serveCommand 0x09#8 q)

/-- LINE_RESET, operation 0Ah (R172, R173). -/
def execLineReset (q : Request) (s : State) : Host.Outcome State Fault Refusal := .next (s.serveCommand 0x0A#8 q)

/-- UNKNOWN_OP (R163): a record whose operation byte is none of the ten; a byte that is one of them is no such record,
and the state stays (log 2). -/
def execUnknownOp (op : Byte) (q : Request) (s : State) : Host.Outcome State Fault Refusal :=
  .next (if knownOp op then s else s.serveCommand op q)

end Sys2Proof.Machine
end

