-- ==== Sys2Proof/Machine/SlotCommands.lean ====
section
/-! DEFINITION. The two effects of an owned slot's command part in stage 3 (R28): the clear set (R184) and the drive
reset (R57 to R60), and the commands CLEAR_SET and DRIVE_RESET. -/

namespace Sys2Proof.Machine

/-- The clear set of an owned slot (R184): the named flags are cleared; a STALL in it ends the freeze (R112), a CONDITION
in it empties the sticky set (R80). A STALL taken before the clear is gone for the computation of the same frame, against
the last sentence of R112 (DESIGN CHOICE, log 33). -/
def State.applyClearSet (s : State) (named : Word16) : State :=
  let s1 := s.withEvents { s.events with flags := s.events.flags &&& ~~~named }
  let s2 :=
    if hasEvent named .stall = true ∧ s.wheel.frozen = true then s1.withWheel (WheelBlock.restart s.wheel) else s1
  if hasEvent named .condition then s2.withDemand { s.demand with sticky := Conditions.none } else s2

/-- The joint part of the drive-reset test (R58, R99): at MID, a valid flag and an angle below SAFETY_LIMIT. -/
def State.jointPasses (s : State) : Bool :=
  s.isEnd ||
    (s.joint.valid &&
      match s.joint.reading with
      | none => false
      | some r => decide ((jointAngle s.params r).natAbs < s.params.safetyLimit))

/-- The acceptance conditions of R58. -/
def State.driveResetPasses (s : State) : Bool :=
  s.safeActive && s.jointPasses && (decide (s.drive.st = .off) || decide (s.drive.st = .faulted))

/-- An accepted drive reset (R59): the record is removed, a FAULTED drive goes to OFF, the Wheel Monitor's measurement is
cleared (R113), the result is DONE, and the node enters IDLE and is evaluated. -/
def State.acceptDriveReset (s : State) : State :=
  let s1 := if s.drive.st = .faulted then s.driveOff else s
  let s2 := s1.withWheel (WheelBlock.restart s1.wheel)
  (s2.withCtrl { s2.ctrl with trip := none, driveResult := .done, node := .idle }).evaluate

/-- The DRIVE_RESET flag of an owned slot (R57): tested in TRIPPED, ignored elsewhere; a refusal records REFUSED and
leaves the rest (R60). -/
def State.applyDriveReset (s : State) : State :=
  if s.ctrl.node = .tripped then
    if s.driveResetPasses then s.acceptDriveReset else s.withCtrl { s.ctrl with driveResult := .refused }
  else s

/-! ## Commands -/

/-- CLEAR_SET (R184): the clear set of a slot the node owns. A node with an invalid index owns no slot (R25). -/
def execClearSet (named : Word16) (s : State) : Host.Outcome State Fault Refusal :=
  .next (if s.stagesRun = true ∧ s.indexValid = true then s.applyClearSet named else s)

/-- DRIVE_RESET (R58): the DRIVE_RESET flag of a slot the node owns. -/
def execDriveReset (s : State) : Host.Outcome State Fault Refusal :=
  .next (if s.stagesRun = true ∧ s.indexValid = true then s.applyDriveReset else s)

end Sys2Proof.Machine
end

