-- ==== Sys2Proof/Machine/Outbound.lean ====
section
/-! DEFINITION. Outbound processing (R19, R23 to R37, R64 to R88, R95 to R98, R122, R155): the taking, the nine stages,
the turn-around at END, and the command OUTBOUND_PROCESSING. -/

namespace Sys2Proof.Machine

/-! ## The taking: return check and chain entry, before stage 1 -/

/-- RETURN_LOST enters and its event is raised (R19). -/
def State.loseReturns (s : State) : State := (s.raise .returnLost).setHolds { s.ctrl.holds with returnLost := true }

/-- The miss of a return (R19): the count rises, staying at RETURN_MISS_LIMIT, and at the limit RETURN_LOST stands. -/
def State.countMiss (s : State) : State :=
  let m := min s.params.returnMissLimit (s.line.missCount + 1)
  let t := s.withLine { s.line with missCount := m }
  if m = s.params.returnMissLimit then t.loseReturns else t

/-- The return check of a MID node (R19): a record not returned is a miss; the record then takes the new sequence. END
keeps no record (R16). -/
def State.returnCheck (s : State) (seq : Word16) : State :=
  if s.isEnd then s
  else
    let t :=
      match s.line.returnRec with
      | none => s
      | some r => if r.returned then s else s.countMiss
    t.withLine { t.line with returnRec := some { seq := seq, returned := false } }

/-- The taking of a valid outbound frame: its sequence is noted (R52), the return check made (R19), and an OPEN chain
seen (R38). -/
def State.takeOutbound (s : State) (f : Frame) : State :=
  let t := (s.withLine { s.line with lastOut := frameSeq f }).returnCheck (frameSeq f)
  if frameChainOpen f then t.enterChain false else t

/-! ## Stage 1: profile swap -/

/-- The other bank. -/
def BankId.other : BankId → BankId
  | .a => .b
  | .b => .a

/-- The entries of the active bank. -/
def TableBlock.activeEntries (t : TableBlock) : List Sector :=
  match t.active with
  | .a => t.bankA.entries
  | .b => t.bankB.entries

/-- The lookup made again with the last valid pivot angle (R155). -/
def TableBlock.relook (t : TableBlock) : TableBlock :=
  { t with lookup := t.lastAngle.bind fun angle => lookupIn (TableBlock.activeEntries t) angle }

/-- The Crossing Table's part of the swap (R155). -/
def TableBlock.swap (t : TableBlock) : TableBlock :=
  TableBlock.relook { t with
    active := BankId.other t.active, pendingSwap := false, generation := t.generation + 1, lastCommit := .done }

/-- Joint Capture at a swap (R102): a waiting reading is tested again, the hold count brought within HOLD_LIMIT. -/
def State.jointAtSwap (s : State) : State :=
  s.withJoint { s.joint with
    valid :=
      if s.joint.fresh then
        match s.joint.reading with
        | none => false
        | some r => readingValid s.params r
      else s.joint.valid
    holdCount := min s.joint.holdCount s.params.holdLimit }

/-- The Wheel Monitor at a swap (R118): a change of TEETH, unless frozen, ends the measured interval. -/
def State.wheelAtSwap (s : State) (old : Params) : State :=
  if old.teeth ≠ s.params.teeth ∧ s.wheel.frozen = false then
    s.withWheel { s.wheel with period := 0, armed := false }
  else s

/-- The Drive Sequencer at a swap (R135): a change of DRIVE_MODE stops the drive; a RATE jog in RUNNING takes the new
JOG_DEMAND. -/
def State.driveAtSwap (s : State) (old : Params) : State :=
  if old.driveMode ≠ s.params.driveMode then s.driveStop
  else if s.params.driveMode = .rate ∧ s.drive.jog = true ∧ s.drive.st = .running then
    s.withDrive { s.drive with rateRef := s.params.jogDemand }
  else s

/-- The Line Interface at a swap (R19): a RETURN_MISS_LIMIT no greater than a MID node's count acts as a miss that
reaches it. -/
def State.lineAtSwap (s : State) : State :=
  if s.isEnd = false ∧ s.params.returnMissLimit ≤ s.line.missCount then
    (s.withLine { s.line with missCount := s.params.returnMissLimit }).loseReturns
  else s

/-- The banks exchange roles (R24, R155): the indication is cleared and PROFILE raised. -/
def State.swapBanks (s : State) : State :=
  ((s.withTable (TableBlock.swap s.table)).withSlot { s.slot with pendingCommit := false, swapMade := true }).raise
    .profile

/-- The whole swap: the banks, then the blocks that hold state shaped by the old bank (R155), in the order of log 10. -/
def State.profileSwap (s : State) : State :=
  let old := s.params
  ((((s.swapBanks.jointAtSwap).wheelAtSwap old).driveAtSwap old).lineAtSwap).inputsAtSwap old

/-- The lamp at the end of stage 1 (R187): the step count takes the sequence and the step timer starts again. -/
def State.lampAtFrame (s : State) (seq : Word16) : State :=
  s.withLamp { stepCount := seq, stepTimer := some (Timer.start s.params.cyclePeriod) }

/-- Stage 1 (R24, R187). -/
def State.stageSwap (s : State) (f : Frame) : State :=
  let t := if s.slot.pendingCommit then s.profileSwap else s.withSlot { s.slot with swapMade := false }
  t.lampAtFrame (frameSeq f)

/-! ## Stage 2: slot location -/

/-- Slot k is present in the frame (R25). -/
def State.slotPresent (s : State) (f : Frame) : Bool := s.indexValid && decide (s.indexNat ≤ frameSlots f)

/-- The node owns slot k in this frame (R25, R26): present, with its status marker clear on arrival. -/
def State.ownsSlot (s : State) (f : Frame) : Bool := s.slotPresent f && !slotMarker f s.indexNat

/-- Stage 2 (R25, R26, R47): an invalid index raises STRAP; an absent slot sets NO_SLOT; a set marker raises STRAP and is
a strap fault; an owned slot clears NO_SLOT. -/
def State.stageLocate (s : State) (f : Frame) : State :=
  if s.indexValid then
    if s.indexNat ≤ frameSlots f then
      if slotMarker f s.indexNat then (s.raise .strap).enterStrapFault
      else s.setHolds { s.ctrl.holds with noSlot := false }
    else s.setHolds { s.ctrl.holds with noSlot := true }
  else s.raise .strap

/-! ## Stage 3: command read -/

/-- Stage 3 (R27, R28): the command record, the clear set, the drive reset; with no owned slot the record is absent. -/
def State.stageCommand (s : State) (f : Frame) (owned : Bool) : State :=
  if owned then
    let b := slotCommand f s.indexNat
    let s1 := s.withSlot { s.slot with runPermit := b.getLsbD 0, haltPass := b.getLsbD 2 }
    let s2 := s1.applyClearSet (slotClearSet f s.indexNat)
    if b.getLsbD 1 then s2.applyDriveReset else s2
  else s.withSlot { s.slot with runPermit := false, haltPass := false }

/-! ## Stage 4: the motion computation -/

/-- The pivot angle field is a valid angle (R66). -/
def pivotValid (f : Frame) : Bool := decide (framePivot f < 36000)

/-- A header field that the computation reads, or the arriving ceiling, lies out of range (R29, R87). -/
def headerFieldBad (f : Frame) : Bool :=
  decide (6000 < frameRate f) || !pivotValid f || decide (1000 < frameCeiling f)

/-- The sector lookup of the input step (R66, R145): made for a valid angle, held otherwise. -/
def State.lookupAngle (s : State) (f : Frame) : State :=
  if pivotValid f then
    s.withTable { s.table with
      lookup := lookupIn s.activeBank.entries (framePivot f), lastAngle := some (framePivot f) }
  else s

/-- The requests one computation makes, taken in the order of R54 at the second evaluation. -/
structure TripRequests where
  capture : Option TripCause
  joint : Bool
  overSpeed : Bool
  underSpeed : Bool
  field : Bool
  deriving DecidableEq, Repr

/-- Joint Capture at the computation of a MID node with the valid flag set (R95, R97): the angle is taken and checked. -/
def State.takeValidAngle (s : State) (theta : Int) : State :=
  let t :=
    (s.withJoint { s.joint with fresh := false, valid := false, lastTheta := theta, holdCount := 0 }).withDemand
      { s.demand with theta := theta }
  (t.raiseIf (decide (s.params.warnLimit ≤ theta.natAbs ∨ s.params.safetyLimit ≤ theta.natAbs)) .alignWarn).raiseIf
    (decide (s.params.safetyLimit ≤ theta.natAbs)) .alignTrip

/-- The hold count after one more held angle (R95). -/
def State.heldCount (s : State) : Nat := min s.params.holdLimit (s.joint.holdCount + 1)

/-- Joint Capture at the computation of a MID node with the valid flag clear (R95, R96): the held angle, condition JOINT,
and SENSOR_LOST at the limit. -/
def State.takeHeldAngle (s : State) : State :=
  let t :=
    (s.withJoint { s.joint with fresh := false, valid := false, holdCount := s.heldCount }).withDemand
      { s.demand with theta := s.joint.lastTheta }
  (t.raiseCondition .joint).raiseIf (decide (s.heldCount = s.params.holdLimit)) .sensorLost

/-- The reading a computation takes: the last reading, when the valid flag is set. -/
def State.freshAngle (s : State) : Option Int :=
  if s.joint.valid then s.joint.reading.map (jointAngle s.params) else none

/-- The joint angle of the input step (R68, R95, R103): at END the angle is 0 and Joint Capture is idle. -/
def State.takeJoint (s : State) : State :=
  if s.isEnd then s.withDemand { s.demand with theta := 0 }
  else
    match s.freshAngle with
    | some theta => s.takeValidAngle theta
    | none => s.takeHeldAngle

/-- The request of Joint Capture in this computation (R96, R97). -/
def State.captureRequest (s : State) : Option TripCause :=
  if s.isEnd then none
  else
    match s.freshAngle with
    | some theta => if s.params.safetyLimit ≤ theta.natAbs then some .align else none
    | none => if s.heldCount = s.params.holdLimit then some .sensorLost else none

/-- The angle used is a held one (R83). -/
def State.angleHeld (s : State) : Bool := !s.isEnd && s.freshAngle.isNone

/-- The clamped rate ω (R65). -/
def clampedRate (f : Frame) : Nat := min 6000 (frameRate f)

/-- The direction sign s (R65). -/
def directionSign (f : Frame) : Int :=
  match frameDirection f with
  | .forward => 1
  | .reverse => -1

/-- Steps 1 to 6 on the state after the input step (R64). -/
def State.motion (s : State) (f : Frame) : MotionResult :=
  motionSteps s.params s.power.role (clampedRate f) s.slot.ceiling s.ownLimit s.slot.chainOpen (directionSign f)
    s.demand.theta

/-- The input step (R64 to R69, R79): the cause set is emptied, the lookup made, FIELD raised, the joint angle taken. -/
def State.inputStep (s : State) (f : Frame) : State :=
  (((s.withDemand { s.demand with causes := Conditions.none }).lookupAngle f).raiseConditionIf (headerFieldBad f)
    .field).takeJoint

/-- OVER, UNDER and NOCAP as steps 4 and 6 raise them. -/
def State.raiseMotion (s : State) (m : MotionResult) : State :=
  ((s.raiseConditionIf m.overSpeed .overSpeed).raiseConditionIf m.underSpeed .underSpeed).raiseConditionIf m.nocap .nocap

/-- The requests are taken in the order of R54: Joint Capture's, then JOINT, OVER, UNDER, FIELD. -/
def State.takeRequests (s : State) (r : TripRequests) : State :=
  let s1 :=
    match r.capture with
    | none => s
    | some cause => s.tripRequest cause
  (((s1.tripRequestIf r.joint .joint).tripRequestIf r.overSpeed .overSpeed).tripRequestIf r.underSpeed
    .underSpeed).tripRequestIf r.field .field

/-- The trip requests of a computation (R82, R96, R97): of the state `before` the joint angle was taken, the frame and the
result of the steps. -/
def State.requestsOf (before : State) (f : Frame) (m : MotionResult) : TripRequests where
  capture := before.captureRequest
  joint := before.angleHeld && before.params.tripEnables.joint
  overSpeed := m.overSpeed && before.params.tripEnables.overSpeed
  underSpeed := m.underSpeed && before.params.tripEnables.underSpeed
  field := headerFieldBad f && before.params.tripEnables.field

/-- The stop of a change of direction (R134): STOPPING with the flag set; with STOP_TIME 0 the drive is OFF, the flag
clear, in the same event, and the hand-over's own start follows with the demand just settled (log 14). -/
def State.haltToReverse (s : State) : State :=
  if s.params.stopTime = 0 then s.driveOff else s.haltMotor.withDrive { s.haltMotor.drive with dirChange := true }

/-- A change of direction begins (R122, R134): in RUN, the direction record differing from the output direction, no jog
and no change under way. -/
def State.changeDirection (s : State) : State :=
  if s.ctrl.node = .run ∧ s.drive.dirRecord ≠ s.drive.dir ∧ s.drive.jog = false ∧ s.drive.dirChange = false then
    match s.drive.st with
    | .off => s
    | .faulted => s
    | .stopping => s.withDrive { s.drive with dirChange := true }
    | .starting => s.haltToReverse
    | .running => s.haltToReverse
    | .resting => s.haltToReverse
  else s

/-- The demand settled (R75): the candidate in RUN with no change of direction under way, else 0. -/
def State.settleDemand (s : State) (candidate : Nat) : State :=
  s.withDemand { s.demand with
    d := if s.ctrl.node = .run ∧ s.drive.dirChange = false then candidate else 0 }

/-- The contribution settled (R78): the candidate in RUN, else 0. -/
def State.settleContribution (s : State) (candidate : Nat) : State :=
  s.withDemand { s.demand with c := if s.ctrl.node = .run then candidate else 0 }

/-- RESTING has ended: the period timer and MIN_OFF have both expired (R127). -/
def DriveBlock.restOver (x : DriveBlock) : Bool := x.period.isNone && x.phase.isNone

/-- The Drive Sequencer acts on the d handed over in RUN in DUTY mode (R122, R126). -/
def State.actDuty (s : State) : State :=
  match s.drive.st with
  | .off => s.startIfDue
  | .resting => if DriveBlock.restOver s.drive then s.startIfDue else s
  | .starting => if s.demand.d = 0 then s.endOnTime else s
  | .running => if s.demand.d = 0 then s.endOnTime else s
  | .stopping => s
  | .faulted => s

/-- The Drive Sequencer acts on the d handed over in RUN in RATE mode (R122, R128, R129). -/
def State.actRate (s : State) : State :=
  match s.drive.st with
  | .off => s.startIfDue
  | .running => s.withDrive { s.drive with rateRef := s.demand.d }
  | .starting => s
  | .resting => s
  | .stopping => s
  | .faulted => s

/-- The third step of the hand-over (R122): when the node is not RUN it changes nothing. -/
def State.actOnDemand (s : State) : State :=
  if s.ctrl.node = .run then
    match s.params.driveMode with
    | .duty => s.actDuty
    | .rate => s.actRate
  else s

/-- The hand-over at the end of stage 4 (R122). -/
def State.handDemandOver (s : State) (f : Frame) (candidate : Nat) : State :=
  (((s.withDrive { s.drive with dirRecord := frameDirection f }).changeDirection).settleDemand candidate).actOnDemand

/-- The node evaluated for the first time, the header's machine mode copied before (R44, R46). -/
def State.beginMotion (s : State) (f : Frame) : State :=
  (s.withCtrl { s.ctrl with machineRun := frameMachineRun f }).firstEvaluate

/-- Stage 4 (R29, R64): the first evaluation, the computation, the second evaluation with its trips, the settling of c and
d, the hand-over. The inputs are read after the first evaluation: R64 has them read at the computation's start, between the
two evaluations, and as they stand at the start of stage 4 (DESIGN CHOICE, log 32). -/
def State.stageMotion (s : State) (f : Frame) : State :=
  let a := s.beginMotion f
  let b := a.inputStep f
  let m := b.motion f
  let x := ((b.raiseMotion m).takeRequests (a.requestsOf f m)).evaluate
  (x.settleContribution m.contribution).handDemandOver f m.candidate

/-! ## Stage 5: status write -/

/-- Byte 4 of the slot (R7): drive state, last drive-reset result, last commit result. -/
def State.resultsByte (s : State) : Byte :=
  DriveState.code s.drive.st ||| (LastResult.code s.ctrl.driveResult <<< 3) ||| (LastResult.code s.table.lastCommit <<< 5)

/-- The cause byte and the extra count of the trip record (R30): 0 and 0 when there is none. -/
def tripBytes : Option TripRecord → List Byte
  | none => [0, 0]
  | some r => [TripCause.code r.cause, BitVec.ofNat 8 r.extra]

/-- Bytes 3 to 19 of the node's slot (R7, R30), the status marker set. -/
def State.statusBytes (s : State) : List Byte :=
  [0x80#8 ||| NodeState.code s.ctrl.node, s.resultsByte, s.table.generation]
    ++ natBytes s.demand.d ++ intBytes s.demand.theta ++ natBytes (min 65535 s.speed) ++ natBytes s.demand.c
    ++ [BitVec.ofNat 8 (topEvent s.events)] ++ wordBytes s.events.flags ++ [Conditions.code s.demand.causes]
    ++ tripBytes s.ctrl.trip

/-! ## Stages 6 and 7: ceiling and chain -/

/-- The outgoing ceiling (R32): the smaller of the arriving ceiling, clamped to 1000, and c. -/
def State.outgoingCeiling (s : State) (f : Frame) : Nat := min (min 1000 (frameCeiling f)) s.demand.c

/-- The opener the node writes (R33): its index, or 31 when the strapped index is invalid. -/
def State.openerByte (s : State) : Byte := if s.indexValid then BitVec.ofNat 8 s.indexNat else 31#8

/-- The node opens a chain that arrived CLOSED (R33). -/
def State.opensHere (s : State) (f : Frame) : Bool := NodeState.opensChain s.ctrl.node && !frameChainOpen f

/-- The frame after stage 7 (R33). -/
def State.chainFrame (s : State) (f : Frame) : Frame := if s.opensHere f then setChainOpen f s.openerByte else f

/-- The state after stage 7 (R33, R38). -/
def State.stageChain (s : State) (f : Frame) : State :=
  if s.opensHere f then (s.withSlot { s.slot with outChain := .openedHere }).enterChain true
  else s.withSlot { s.slot with outChain := if frameChainOpen f then .openedElsewhere else .closed }

/-! ## Stage 8: service record -/

/-- Stage 8 (R34, R162): the record of a frame that carries one is handled; the frame takes the answer (R14). -/
def State.stageService (s : State) (f : Frame) : State × Frame :=
  if frameService f then
    let x := s.serve (frameRecord f)
    (x.1.withSlot { x.1.slot with record := some x.2 }, setAnswer f x.2)
  else (s.withSlot { s.slot with record := none }, f)

/-! ## Stage 9: the turn-around at END, and the whole -/

/-- END's latch at the turn-around (R37, R39): the ceiling and chain it sends inward, CHAIN entered or released. -/
def State.turnAround (s : State) (ceiling : Nat) (chainOpen : Bool) : State :=
  let t := s.withSlot { s.slot with ceiling := ceiling, chainOpen := chainOpen }
  if chainOpen then t.enterChain (decide (s.slot.outChain = .openedHere)) else t.releaseChain

/-- The frame up to stage 7: the status written when the slot is owned, the ceiling, the chain. -/
def State.headedFrame (s : State) (f : Frame) (owned : Bool) : Frame :=
  s.chainFrame (setCeiling (if owned then setStatus f s.indexNat s.statusBytes else f) (s.outgoingCeiling f))

/-- The taking and stages 1 to 4 (R19, R23, R38): the state that stages 5 to 7 read. -/
def State.throughMotion (s : State) (f : Frame) : State :=
  ((((s.takeOutbound f).stageSwap f).stageLocate f).stageCommand f (s.ownsSlot f)).stageMotion f

/-- Outbound processing as one operation (R23): the state and the frame it sends, its check computed anew. The stall test
against the new threshold is made as the processing ends (R109), before END's latch (log 27). Stage 8 is before that latch
(R162), so a READ_LIVE at END reads the ceiling and chain latched at the frame before (DESIGN CHOICE, log 36). A drive that
the hand-over started is STARTING in the status (R122) and in a READ_LIVE (R138) of that frame, and goes on to RUNNING when
the stages are over and DRDY is active (R23, R125; DEDUCED, log 37). -/
def State.processFrame (s : State) (f : Frame) : State × Frame :=
  let s4 := s.throughMotion f
  let f7 := s4.headedFrame f (s.ownsSlot f)
  let x := (s4.stageChain f).stageService f7
  let s9 := x.1.stallTest
  if s.isEnd then ((s9.turnAround (s4.outgoingCeiling f) (frameChainOpen f7)).takeReady, sealFrame (setInbound x.2))
  else (s9.takeReady, sealFrame x.2)

/-- The transmit buffer an outbound frame leaves by (R12): the outer at MID, the inner at END. -/
def State.outboundTx (s : State) : TxBuffer := if s.isEnd then s.line.txInner else s.line.txOuter

/-- `s` with that transmit buffer replaced. -/
def State.withOutboundTx (s : State) (x : TxBuffer) : State :=
  if s.isEnd then s.withLine { s.line with txInner := x } else s.withLine { s.line with txOuter := x }

/-- OUTBOUND_PROCESSING (R23): the taken outbound frame is processed and sent; with none taken nothing happens (log 2). A
frame taken is always sent, a waiting line reset or not (R35, log 16). -/
def execOutboundProcessing (s : State) : Host.Outcome State Fault Refusal :=
  .next
    (if s.released then
      match s.outboundTx with
      | .taken f => (s.processFrame f).1.withOutboundTx (.sending (s.processFrame f).2)
      | .empty => s
      | .sending _ => s
    else s)

end Sys2Proof.Machine
end

