-- ==== Sys2Proof/Machine/ResetCommands.lean ====
section
/-! DEFINITION. Power-up, the pin reset and the line reset taking effect (R21, R22, R189 to R191), and their commands. -/

namespace Sys2Proof.Machine

/-- The supply and strap block with both references at the beginning of their count (R192): no tick has come, and no
sample is due. -/
def PowerBlock.restartReference (x : PowerBlock) : PowerBlock := { x with refTick := 0, sampleDue := noSampleDue }

/-- SUPPLY_OK rises after being low (R189): the 2 ms initialisation begins, line and outputs as during reset (R21). -/
def State.supplyRises (s : State) : State :=
  (s.resetBlocks false).withPower
    (PowerBlock.restartReference { s.power with supplyOk := true, initialising := true })

/-- POWER_ON_RESET (R189): SUPPLY_OK rising after being low; with the supply already good nothing rises (log 2). -/
def execPowerOnReset (s : State) : Host.Outcome State Fault Refusal :=
  .next (if s.power.supplyOk then s else s.supplyRises)

/-- SUPPLY_OK falls (R189): the part is back in the held reset, transmissions cut and outputs off (R21, log 24). -/
def State.supplyFalls (s : State) : State :=
  (s.resetBlocks false).withPower
    (PowerBlock.restartReference { s.power with supplyOk := false, initialising := false })

/-- SUPPLY_LOSS (R189): SUPPLY_OK falling at any time; with the supply already low nothing falls (log 2). -/
def execSupplyLoss (s : State) : Host.Outcome State Fault Refusal :=
  .next (if s.power.supplyOk then s.supplyFalls else s)

/-- The level a strap pin reads (R190): an unconnected one reads low, by its pull-down. -/
def StrapPin.reads : StrapPin → Level
  | .tied level => level
  | .unconnected => .low

/-- What a strap at this level counts in the index (R190): high 1, low 0. -/
def Level.bit : Level → Nat
  | .low => 0
  | .high => 1

/-- The tower index the straps form (R190): a binary number with IDX4 the most significant. -/
def IndexStraps.number (x : IndexStraps) : BitVec 5 :=
  BitVec.ofNat 5 (16 * Level.bit (StrapPin.reads x.idx4) + 8 * Level.bit (StrapPin.reads x.idx3)
    + 4 * Level.bit (StrapPin.reads x.idx2) + 2 * Level.bit (StrapPin.reads x.idx1)
    + Level.bit (StrapPin.reads x.idx0))

/-- The role ROLE selects (R190): high END, low MID. -/
def StrapPin.role (x : StrapPin) : Role :=
  match StrapPin.reads x with
  | .high => .endNode
  | .low => .mid

/-- The initialisation ends (R189, R190): the straps are latched and every block takes its power-on state, the node
STANDBY with strap fault when the index is invalid (R43). With RESETn low the part stays held. -/
def State.finishInitialisation (s : State) (index : IndexStraps) (role : StrapPin) : State :=
  (s.withPower (PowerBlock.restartReference { s.power with
    initialising := false, index := IndexStraps.number index, role := StrapPin.role role })).resetBlocks false

/-- INITIALISATION_END (R189, R190): the end of the initialisation under way; with none under way nothing ends (log 2). -/
def execInitialisationEnd (index : IndexStraps) (role : StrapPin) (s : State) : Host.Outcome State Fault Refusal :=
  .next (if s.power.initialising then s.finishInitialisation index role else s)

/-- PIN_RESET (R191): RESETn driven low holds the part, resets every block at once, cuts a transmission and replaces a
waiting line reset (R21, R22). The straps stand. -/
def execPinReset (s : State) : Host.Outcome State Fault Refusal :=
  .next ((s.resetBlocks false).withPower { s.power with resetLow := true })

/-- PIN_RESET_RELEASE (R191): RESETn goes high; the part is released at once unless the supply or the initialisation
still holds it, and the references begin their count (R192). A RESETn already high does not rise (log 2). -/
def execPinResetRelease (s : State) : Host.Outcome State Fault Refusal :=
  .next (if s.power.resetLow then s.withPower (PowerBlock.restartReference { s.power with resetLow := false }) else s)

/-- A kind of line reset keeps the Crossing Table (R174): SOFT does. -/
def LineResetKind.keepsTable : LineResetKind → Bool
  | .hard => false
  | .soft => true

/-- Every frame taken by the order has left (R22, R35): both transmit buffers are empty (log 16). -/
def State.lineQuiet (s : State) : Bool := decide (s.line.txInner = .empty) && decide (s.line.txOuter = .empty)

/-- LINE_RESET_EFFECT (R22, R173): once the ordering frame and an inbound frame taken before the order have left, the line reset acts
in every block at once. The 1 kHz reference runs on (R192). -/
def execLineResetEffect (s : State) : Host.Outcome State Fault Refusal :=
  .next
    (if s.released = true ∧ s.lineQuiet = true then
      match s.line.waitingReset with
      | none => s
      | some k => s.resetBlocks (LineResetKind.keepsTable k)
    else s)

end Sys2Proof.Machine
end

