-- ==== Sys2Proof/Machine/SensorCommands.lean ====
section
/-! DEFINITION. The joint measurement (R90, R91), the wheel (R105 to R110, R114 to R116), the 1 ms tick, and the commands
JOINT_MEASUREMENT_START, JOINT_FALLING_EDGE, JOINT_READING_COMPLETE, WHEEL_TICK, WHEEL_TOOTH and STALL. -/

namespace Sys2Proof.Machine

/-! ## Joint -/

/-- The joint pin is sampled: released, and not at END (R90, R103). -/
def State.jointSampled (s : State) : Bool := s.released && !s.isEnd

/-- A rising edge in UNARMED (R90): both counts begin at 0. -/
def State.startMeasurement (s : State) : State :=
  s.withJoint { s.joint with measurement := .measuring 0 0 true }

/-- JOINT_MEASUREMENT_START (R90): the first rising edge; in MEASURING it is no such edge (log 2). -/
def execJointMeasurementStart (s : State) : Host.Outcome State Fault Refusal :=
  .next (if s.jointSampled = true ∧ s.joint.measurement = .unarmed then s.startMeasurement else s)

/-- A count that advances and stops at 65535 (R90). -/
def advanceCount (n samples : Nat) : Nat := min countLimit (n + samples)

/-- A falling edge (R90): in MEASURING both counts have advanced by the samples since the rising edge and the high-time
count stops; in UNARMED it is passed over. -/
def State.fallingEdge (s : State) (samples : Nat) : State :=
  match s.joint.measurement with
  | .measuring period high true =>
    s.withJoint { s.joint with
      measurement := .measuring (advanceCount period samples) (advanceCount high samples) false }
  | .measuring _ _ false => s
  | .unarmed => s

/-- JOINT_FALLING_EDGE (R90), this many samples after the rising edge (log 17). -/
def execJointFallingEdge (samples : Nat) (s : State) : Host.Outcome State Fault Refusal :=
  .next (if s.jointSampled then s.fallingEdge samples else s)

/-- A completed reading replaces the last, sets the fresh flag, and sets the valid flag by the test of R92 (R91). -/
def State.completeReading (s : State) (period high : Nat) : State :=
  let r : Reading := { period := period, high := high, duty := dutyOf high period }
  s.withJoint { s.joint with
    measurement := .measuring 0 0 true, reading := some r, fresh := true, valid := readingValid s.params r }

/-- A rising edge in MEASURING, after its falling edge (R90, R91): the period completes and the next one opens. -/
def State.risingEdge (s : State) (samples : Nat) : State :=
  match s.joint.measurement with
  | .measuring period high false => s.completeReading (advanceCount period samples) high
  | .measuring _ _ true => s
  | .unarmed => s

/-- JOINT_READING_COMPLETE (R91), this many samples after the falling edge (log 17); an edge that cannot complete a
period changes nothing (log 2). -/
def execJointReadingComplete (samples : Nat) (s : State) : Host.Outcome State Fault Refusal :=
  .next (if s.jointSampled then s.risingEdge samples else s)

/-! ## Wheel -/

/-- The measured speed is valid (R114). -/
def WheelBlock.speedValid (w : WheelBlock) : Bool := decide (1 ≤ w.period ∧ w.period ≤ 65534) && !w.frozen

/-- The drag evaluation (R116), made when the measured speed is valid, the drive is RUNNING and the expected speed is
above 0; otherwise the factor is kept. -/
def State.evaluateDrag (s : State) : State :=
  if WheelBlock.speedValid s.wheel = true ∧ s.drive.st = .running ∧ 0 < s.expectedSpeed then
    let ratio := dragRatio s.speed s.expectedSpeed
    if ratio < s.params.dragThreshold then (s.withWheel { s.wheel with drag := ratio }).raise .drag
    else s.withWheel { s.wheel with drag := 1000 }
  else s

/-- A tooth, by the flags it finds (R107). -/
def State.takeTooth (s : State) : State :=
  if s.wheel.frozen then s
  else if s.wheel.armed = false then s.withWheel { s.wheel with armed := true, counter := 0 }
  else if s.wheel.counter = 0 then s
  else (s.withWheel { s.wheel with period := s.wheel.counter, counter := 0 }).evaluateDrag

/-- WHEEL_TOOTH (R107): the qualified level has gone from low to high (log 21). -/
def execWheelTooth (s : State) : Host.Outcome State Fault Refusal :=
  .next
    (if s.released then (s.withWheel { s.wheel with level := some .high, lastSample := some .high }).takeTooth else s)

/-- STALL (R110): the stall test that finds the counter at the threshold and no freeze (R109); otherwise it raises
nothing (log 22). -/
def execStall (s : State) : Host.Outcome State Fault Refusal :=
  .next (if s.released then s.stallTest else s)

/-- The qualified level after a sample (R105): two consecutive equal samples take it. -/
def qualifiedLevel (w : WheelBlock) (sample : Level) : Option Level :=
  if w.lastSample = some sample then some sample else w.level

/-- The sample qualifies a tooth (R105): a change from low to high, so not an establishment. -/
def toothFound (w : WheelBlock) (sample : Level) : Bool :=
  decide (w.level = some .low) && decide (qualifiedLevel w sample = some .high)

/-- The tick counter at a tick (R106): it advances while energized and stays at 65535. -/
def WheelBlock.tick (w : WheelBlock) (sample : Level) (energized : Bool) : WheelBlock :=
  { w with
    level := qualifiedLevel w sample
    lastSample := some sample
    counter := if energized then advanceCount w.counter 1 else w.counter }

/-- Every input's sample is due: a 1 ms tick has come (R175). -/
def everySampleDue : PerInput Bool :=
  { safe := true, hand := true, jogF := true, jogR := true, drdy := true, aux := true }

/-- A running timer 1 ms later; it stays at 0 until its expiry is taken (log 3). -/
def Timer.tick (t : Timer) : Timer := { t with left := t.left - 1 }

/-- One tick of the 1 kHz reference in the millisecond counts beside the Wheel Monitor's (R192, log 4): the timers, the
RATE_REF period (R121), the reference count and the samples due at it (R175). -/
def State.tickReference (s : State) : State :=
  (((s.withPower { s.power with refTick := (s.power.refTick + 1) % 20, sampleDue := everySampleDue }).withLine { s.line with
    frameTimer := s.line.frameTimer.map Timer.tick }).withDrive { s.drive with
      period := s.drive.period.map Timer.tick
      phase := s.drive.phase.map Timer.tick
      rateOut := s.drive.rateRef }).withLamp { s.lamp with stepTimer := s.lamp.stepTimer.map Timer.tick }

/-- The 1 ms tick at the Wheel Monitor (R106), in its order: sample, counter, tooth, stall test. -/
def State.wheelTick (s : State) (sample : Level) : State :=
  let t := s.withWheel (WheelBlock.tick s.wheel sample s.wheelEnergized)
  (if toothFound s.wheel sample then t.takeTooth else t).stallTest

/-- WHEEL_TICK (R106, R192): one 1 ms tick of the reference. The spec does not order what falls on one tick; the model
takes the timers and the RATE_REF period first, then the Wheel Monitor, and the input samples as they are sent after it
(DESIGN CHOICE, log 35). -/
def execWheelTick (sample : Level) (s : State) : Host.Outcome State Fault Refusal :=
  .next (if s.released then s.tickReference.wheelTick sample else s)

end Sys2Proof.Machine
end

