-- ==== Sys2Proof/Machine/TimerCommands.lean ====
section
/-! DEFINITION. The expiries of the drive's timers and of the lamp's (R125 to R127, R133, R187), and the commands
START_TIMEOUT, ON_TIME_END, RESTING_END, STOP_TIME_END and LOCAL_STEP_TIMER_EXPIRY. An expiry command is the expiry
of a timer that has run out (log 3). -/

namespace Sys2Proof.Machine

/-- START_TIMEOUT (R125, R128, R136): in STARTING with DRDY inactive the drive faults. -/
def execStartTimeout (s : State) : Host.Outcome State Fault Refusal :=
  .next
    (if s.released = true ∧ s.drive.st = .starting ∧ s.drdyActive = false ∧ timerRunOut s.drive.phase = true then s.faultDrive
    else s)

/-- The on-time of a DUTY period has elapsed (R125, R126): STARTING or RUNNING, not a jog, the period timer running for
at least the on-time. -/
def State.onTimeOver (s : State) : Bool :=
  DriveState.energizes s.drive.st && !s.drive.jog && s.drive.period.isSome
    && decide (DriveBlock.onTimeLeft s.drive = 0)

/-- ON_TIME_END (R125, R126): the on-time has elapsed and the drive rests. -/
def execOnTimeEnd (s : State) : Host.Outcome State Fault Refusal :=
  .next (if s.released = true ∧ s.onTimeOver = true then s.endOnTime else s)

/-- The end of the wait in RESTING is due (R127): a timer still runs, and neither has time left. -/
def State.restRunOut (s : State) : Bool :=
  decide (s.drive.st = .resting) && (s.drive.period.isSome || s.drive.phase.isSome)
    && decide (timeLeft s.drive.period = 0) && decide (timeLeft s.drive.phase = 0)

/-- The end of the wait in RESTING (R127): both timers stop, and a new period begins in RUN with d above 0. -/
def State.endRest (s : State) : State :=
  (s.withDrive { s.drive with period := none, phase := none }).startIfDue.takeReady

/-- RESTING_END (R127): the later of the two expiries. -/
def execRestingEnd (s : State) : Host.Outcome State Fault Refusal :=
  .next (if s.released = true ∧ s.restRunOut = true then s.endRest else s)

/-- STOP_TIME_END (R133): the drive arrives at OFF and a waiting start is made. -/
def execStopTimeEnd (s : State) : Host.Outcome State Fault Refusal :=
  .next (if s.released = true ∧ s.drive.st = .stopping ∧ timerRunOut s.drive.phase = true then s.arriveOff else s)

/-- The expiry of the local step timer (R187): it starts again, and the step count advances when LINK_LOST stands. -/
def State.expireStepTimer (s : State) : State :=
  s.withLamp
    { stepCount := if s.ctrl.holds.linkLost then s.lamp.stepCount + 1 else s.lamp.stepCount
      stepTimer := some (Timer.start s.params.cyclePeriod) }

/-- LOCAL_STEP_TIMER_EXPIRY (R187): of the timer that has run out; no other expires (log 2, log 3). -/
def execLocalStepTimerExpiry (s : State) : Host.Outcome State Fault Refusal :=
  .next (if s.released = true ∧ timerRunOut s.lamp.stepTimer = true then s.expireStepTimer else s)

end Sys2Proof.Machine
end

