-- ==== Sys2Proof/Machine/Dispatch.lean ====
section
/-! DEFINITION. The meaning of each command: one arm per constructor of Instr, in the opcode table's order. -/

namespace Sys2Proof.Machine

def exec (i : Instr) (s : State) : Host.Outcome State Fault Refusal :=
  match i with
  | .powerOnReset => Sys2Proof.Machine.execPowerOnReset s
  | .supplyLoss => Sys2Proof.Machine.execSupplyLoss s
  | .initialisationEnd index role => Sys2Proof.Machine.execInitialisationEnd index role s
  | .pinReset => Sys2Proof.Machine.execPinReset s
  | .pinResetRelease => Sys2Proof.Machine.execPinResetRelease s
  | .frameArrival link burst => Sys2Proof.Machine.execFrameArrival link burst s
  | .transmitComplete link => Sys2Proof.Machine.execTransmitComplete link s
  | .outboundProcessing => Sys2Proof.Machine.execOutboundProcessing s
  | .clearSet named => Sys2Proof.Machine.execClearSet named s
  | .driveReset => Sys2Proof.Machine.execDriveReset s
  | .readParam q => Sys2Proof.Machine.execReadParam q s
  | .writeParam q => Sys2Proof.Machine.execWriteParam q s
  | .readEntry q => Sys2Proof.Machine.execReadEntry q s
  | .writeEntry q => Sys2Proof.Machine.execWriteEntry q s
  | .trimEntries q => Sys2Proof.Machine.execTrimEntries q s
  | .stageFromActive q => Sys2Proof.Machine.execStageFromActive q s
  | .commit q => Sys2Proof.Machine.execCommit q s
  | .setEvents q => Sys2Proof.Machine.execSetEvents q s
  | .readLive q => Sys2Proof.Machine.execReadLive q s
  | .lineReset q => Sys2Proof.Machine.execLineReset q s
  | .unknownOp op q => Sys2Proof.Machine.execUnknownOp op q s
  | .inboundTake => Sys2Proof.Machine.execInboundTake s
  | .lineResetEffect => Sys2Proof.Machine.execLineResetEffect s
  | .frameTimeout => Sys2Proof.Machine.execFrameTimeout s
  | .jointReadingComplete samples => Sys2Proof.Machine.execJointReadingComplete samples s
  | .wheelTooth => Sys2Proof.Machine.execWheelTooth s
  | .stall => Sys2Proof.Machine.execStall s
  | .inputChange input level => Sys2Proof.Machine.execInputChange input level s
  | .startTimeout => Sys2Proof.Machine.execStartTimeout s
  | .onTimeEnd => Sys2Proof.Machine.execOnTimeEnd s
  | .restingEnd => Sys2Proof.Machine.execRestingEnd s
  | .stopTimeEnd => Sys2Proof.Machine.execStopTimeEnd s
  | .localStepTimerExpiry => Sys2Proof.Machine.execLocalStepTimerExpiry s
  | .wheelTick level => Sys2Proof.Machine.execWheelTick level s
  | .jointMeasurementStart => Sys2Proof.Machine.execJointMeasurementStart s
  | .jointFallingEdge samples => Sys2Proof.Machine.execJointFallingEdge samples s
  | .inputSample input level => Sys2Proof.Machine.execInputSample input level s

end Sys2Proof.Machine
end

