-- ==== Sys2Proof/Safety.lean ====
section
/-! DEFINITION. The vocabulary of the claims: which blocks a command leaves unchanged, what a reset leaves, the ranges of
a profile, and the laws the data book states of every state. -/

namespace Sys2Proof.Machine

/-! ## Frames: the blocks left unchanged -/

/-- The parts of the state, by name. -/
inductive BlockName where
  | power
  | line
  | slot
  | ctrl
  | demand
  | joint
  | wheel
  | drive
  | table
  | events
  | inputs
  | lamp
  | pending
  deriving DecidableEq, Repr

/-- The two states hold the same in this part. -/
def State.sameBlock (s t : State) : BlockName → Prop
  | .power => t.power = s.power
  | .line => t.line = s.line
  | .slot => t.slot = s.slot
  | .ctrl => t.ctrl = s.ctrl
  | .demand => t.demand = s.demand
  | .joint => t.joint = s.joint
  | .wheel => t.wheel = s.wheel
  | .drive => t.drive = s.drive
  | .table => t.table = s.table
  | .events => t.events = s.events
  | .inputs => t.inputs = s.inputs
  | .lamp => t.lamp = s.lamp
  | .pending => t.pending = s.pending

/-- `t` holds what `s` holds in every part but those listed. -/
def State.SameOutside (blocks : List BlockName) (s t : State) : Prop := ∀ b, b ∉ blocks → State.sameBlock s t b

/-- The event sets are the same and no flag is lost: a command that can only raise events. -/
def State.OnlyRaises (s t : State) : Prop :=
  t.events.enable = s.events.enable ∧ t.events.high = s.events.high
    ∧ ∀ e, hasEvent s.events.flags e = true → hasEvent t.events.flags e = true

/-! ## What a reset leaves, as the chapters' reset rules give it -/

/-- R21 and R22: the Line Interface after a reset. -/
def State.LineAtReset (t : State) : Prop :=
  t.line.rxInner = none ∧ t.line.rxOuter = none ∧ t.line.txInner = .empty ∧ t.line.txOuter = .empty
    ∧ t.line.frameTimer = none ∧ t.line.returnRec = none ∧ t.line.missCount = 0 ∧ t.line.waitingReset = none

/-- R42: the latched values, the chain record and the command record after a reset. -/
def State.SlotAtReset (t : State) : Prop :=
  t.slot.ceiling = 0 ∧ t.slot.chainOpen = true ∧ t.slot.outChain = .noFrame ∧ t.slot.runPermit = false
    ∧ t.slot.haltPass = false

/-- R43: the State Controller after a reset, by the index latched in `t`. -/
def State.CtrlAtReset (t : State) : Prop :=
  t.ctrl.node = .standby (decide (t.power.index.toNat = 0 ∨ t.power.index.toNat = 31))
    ∧ t.ctrl.holds = { linkLost := false, returnLost := false, chain := true, noSlot := false }
    ∧ t.ctrl.trip = none ∧ t.ctrl.driveResult = .notYet ∧ t.ctrl.machineRun = false

/-- R89: the Demand Computer after a reset. -/
def State.DemandAtReset (t : State) : Prop :=
  t.demand.d = 0 ∧ t.demand.c = 0 ∧ t.demand.theta = 0
    ∧ t.demand.causes =
        { joint := false, overSpeed := false, underSpeed := false, nocap := false, short := false, field := false }
    ∧ t.demand.sticky =
        { joint := false, overSpeed := false, underSpeed := false, nocap := false, short := false, field := false }

/-- R104: Joint Capture after a reset. -/
def State.JointAtReset (t : State) : Prop :=
  t.joint.measurement = .unarmed ∧ t.joint.reading = none ∧ t.joint.fresh = false ∧ t.joint.valid = false
    ∧ t.joint.lastTheta = 0 ∧ t.joint.holdCount = 0

/-- R120: the Wheel Monitor after a reset. -/
def State.WheelAtReset (t : State) : Prop :=
  t.wheel.counter = 0 ∧ t.wheel.period = 0 ∧ t.wheel.drag = 1000 ∧ t.wheel.armed = false ∧ t.wheel.frozen = false
    ∧ t.wheel.level = none

/-- R139: the Drive Sequencer after a reset. -/
def State.DriveAtReset (t : State) : Prop :=
  t.drive.st = .off ∧ t.drive.rateRef = 0 ∧ t.drive.dir = .forward ∧ t.drive.dirRecord = .forward
    ∧ t.drive.latchedD = 0 ∧ t.drive.onTime = 0 ∧ t.drive.period = none ∧ t.drive.phase = none
    ∧ t.drive.dirChange = false ∧ t.drive.jog = false ∧ t.drive.lockout = false

/-- R185: the Event Unit after a reset: no flag, all sixteen enabled, ranks 1 to 9 high. -/
def State.EventsAtReset (t : State) : Prop :=
  ∀ e, hasEvent t.events.flags e = false ∧ hasEvent t.events.enable e = true
    ∧ hasEvent t.events.high e = decide (Event.rank e ≤ 9)

/-- R177: the Input Conditioner after a reset: nothing established, every run empty. -/
def State.InputsAtReset (t : State) : Prop :=
  ∀ i, (PerInput.get t.inputs i).pin = none ∧ (PerInput.get t.inputs i).samples = none

/-- R188: the Lamp Generator after a reset. -/
def State.LampAtReset (t : State) : Prop := t.lamp.stepCount = 0 ∧ t.lamp.stepTimer = none

/-- R158: the Crossing Table after a power-on, pin or HARD line reset, and R42: its indication with it. -/
def State.TableAtReset (t : State) : Prop :=
  t.table.bankA = Profile.default ∧ t.table.bankB = Profile.default ∧ t.table.active = .a
    ∧ t.table.generation = 0 ∧ t.table.lastCommit = .notYet ∧ t.table.pendingSwap = false ∧ t.table.lookup = none
    ∧ t.table.lastAngle = none ∧ t.slot.pendingCommit = false

/-- What every reset but a drive reset leaves: every block but the Crossing Table and its indication. -/
def State.BlocksAtReset (t : State) : Prop :=
  t.LineAtReset ∧ t.SlotAtReset ∧ t.CtrlAtReset ∧ t.DemandAtReset ∧ t.JointAtReset ∧ t.WheelAtReset ∧ t.DriveAtReset
    ∧ t.EventsAtReset ∧ t.InputsAtReset ∧ t.LampAtReset

/-- R189: the outputs and the line while the part is held in reset. -/
def State.OutputsHeld (t : State) : Prop :=
  t.driveRun = false ∧ t.rateRefPulse = 0 ∧ t.lampOn = false ∧ t.driveDir = .low
    ∧ TxBuffer.bits t.line.txInner = [] ∧ TxBuffer.bits t.line.txOuter = []

/-! ## The ranges of a profile (R141, R143) -/

/-- `n` lies from `lo` to `hi`. -/
def inRange (lo hi n : Nat) : Prop := lo ≤ n ∧ n ≤ hi

/-- A lamp pattern has one of the lengths and widths of R141. -/
def LampPattern.InRange (x : LampPattern) : Prop :=
  (x.length = 8 ∨ x.length = 9 ∨ x.length = 10 ∨ x.length = 12) ∧ inRange 1 4 x.width

/-- Every parameter lies in its range of R141; RADIUS and VMAX may hold 0, which means unset. -/
structure Params.InRange (p : Params) : Prop where
  radius : p.radius = 0 ∨ inRange 10 9999 p.radius
  vmax : p.vmax = 0 ∨ inRange 100 9999 p.vmax
  reserve : inRange 0 500 p.reserve
  gain : inRange 0 5000 p.gain
  deadband : inRange 0 200 p.deadband
  jointSpan : inRange 500 3000 p.jointSpan
  jointOffset : -300 ≤ p.jointOffset ∧ p.jointOffset ≤ 300
  jointPeriodMin : inRange 200 20000 p.jointPeriodMin
  jointPeriodMax : inRange 200 20000 p.jointPeriodMax
  warnLimit : inRange 50 3000 p.warnLimit
  safetyLimit : inRange 50 3000 p.safetyLimit
  holdLimit : inRange 1 16 p.holdLimit
  teeth : p.teeth = 8 ∨ p.teeth = 16 ∨ p.teeth = 24 ∨ p.teeth = 32
  circumference : inRange 1000 9999 p.circumference
  stallTicks : inRange 1000 65000 p.stallTicks
  dragThreshold : inRange 500 1000 p.dragThreshold
  dutyPeriod : inRange 100 1200 p.dutyPeriod
  minOn : inRange 0 100 p.minOn
  minOff : inRange 0 100 p.minOff
  startTimeout : inRange 1 50 p.startTimeout
  stopTime : inRange 0 100 p.stopTime
  cyclePeriod : inRange 200 2000 p.cyclePeriod
  linkMissLimit : inRange 2 10 p.linkMissLimit
  returnMissLimit : inRange 1 8 p.returnMissLimit
  lampRun : LampPattern.InRange p.lampRun
  lampHold : LampPattern.InRange p.lampHold
  lampFault : LampPattern.InRange p.lampFault
  lampSector : LampPattern.InRange p.lampSector
  jogDemand : inRange 0 1000 p.jogDemand

/-- The fields of an entry lie in the ranges of R143. -/
structure Sector.InRange (e : Sector) : Prop where
  start : e.start < 36000
  stop : e.stop < 36000
  differ : e.start ≠ e.stop
  factor : e.factor ≤ 1000

/-- A bank within the ranges: its parameters, its entries, and a count of at most 32 (R141, R143, R149). -/
structure Profile.InRange (b : Profile) : Prop where
  params : Params.InRange b.params
  entries : ∀ e ∈ b.entries, Sector.InRange e
  count : b.entries.length ≤ 32

/-! ## Commands that the statements speak of -/

/-- A service record with this target reaches the node by its index in stage 8 (R160, R22): released, no line reset
waiting, a valid index, the target equal to it. -/
def State.ReachedBy (s : State) (q : Request) : Prop :=
  s.released = true ∧ s.line.waitingReset = none ∧ 1 ≤ s.power.index.toNat ∧ s.power.index.toNat ≤ 30
    ∧ q.target.toNat = s.power.index.toNat

/-- `t` with the record of the request standing as handled: the target, operation, tag and item as sent, the result and the
payload as given (R8). -/
def State.answered (t : State) (op : Byte) (q : Request) (result : Byte) (payload : Payload) : State :=
  let answer : ServiceRecord :=
    { target := q.target, op := op, tag := q.tag, result := result, item := q.item, payload := payload }
  t.withSlot { t.slot with record := some answer }

/-- `s` with the entries of its staging bank replaced. -/
def State.withStagedEntries (s : State) (entries : List Sector) : State :=
  s.withStaging { s.stagingBank with entries := entries }

/-- R2, R3, R10: a burst that arrived on this link fails at least one of the tests of R10. -/
def BurstFails (link : Link) (burst : List RxByte) : Prop :=
  (∃ b ∈ burst, b.stopOk = false) ∨ burst.length < 34 ∨ 628 < burst.length
    ∨ byteAt (burst.map RxByte.data) 0 ≠ 0x3A#8
    ∨ frameSlots (burst.map RxByte.data) = 0 ∨ 30 < frameSlots (burst.map RxByte.data)
    ∨ burst.length ≠ 12 + 20 * frameSlots (burst.map RxByte.data)
        + 14 * (frameService (burst.map RxByte.data)).toNat + 2
    ∨ crc16 ((burst.map RxByte.data).take (burst.length - 2)) ≠ word16At (burst.map RxByte.data) (burst.length - 2)
    ∨ (link = .outer ∧ frameInbound (burst.map RxByte.data) = false)
    ∨ (link = .inner ∧ frameInbound (burst.map RxByte.data) = true)

/-- R5: the frame has the length its slot count and service flag give, with 1 to 30 slots. -/
def FrameSized (f : Frame) : Prop :=
  1 ≤ frameSlots f ∧ frameSlots f ≤ 30 ∧ f.length = 12 + 20 * frameSlots f + 14 * (frameService f).toNat + 2

/-- R14: byte `i` of a frame is one that the node `s` may change in outbound processing: its own slot's status bytes when
it owns the slot, the ceiling, the control byte and the opener, the result and payload of a record addressed by its index,
the check. -/
def State.MayChange (s : State) (f : Frame) (i : Nat) : Prop :=
  (s.ownsSlot f = true ∧ slotAt s.indexNat + 3 ≤ i ∧ i < slotAt s.indexNat + 20)
    ∨ i = 8 ∨ i = 9 ∨ i = 1 ∨ i = 10
    ∨ (frameService f = true ∧ s.addressed (frameRecord f).target = true
        ∧ (i = recordAt f + 3 ∨ (recordAt f + 6 ≤ i ∧ i < recordAt f + 14)))
    ∨ f.length ≤ i + 2

/-- The value field admits parameter `id` (R141, R151, R166). -/
def ValueAdmitted (id : Nat) (v : Payload) : Prop :=
  let n := (v.b2 ++ v.b3 : Word16).toNat
  match id with
  | 1 => inRange 10 9999 n
  | 2 => inRange 100 9999 n
  | 3 => inRange 0 500 n
  | 4 => inRange 0 5000 n
  | 5 => inRange 0 200 n
  | 6 => inRange 500 3000 n
  | 7 => -300 ≤ (v.b2 ++ v.b3 : Word16).toInt ∧ (v.b2 ++ v.b3 : Word16).toInt ≤ 300
  | 8 => inRange 200 20000 n
  | 9 => inRange 200 20000 n
  | 10 => inRange 50 3000 n
  | 11 => inRange 50 3000 n
  | 12 => inRange 1 16 n
  | 13 => n = 8 ∨ n = 16 ∨ n = 24 ∨ n = 32
  | 14 => inRange 1000 9999 n
  | 15 => inRange 1000 65000 n
  | 16 => inRange 500 1000 n
  | 17 => v.b2.toNat < 2
  | 18 => inRange 100 1200 n
  | 19 => inRange 0 100 n
  | 20 => inRange 0 100 n
  | 21 => inRange 1 50 n
  | 22 => inRange 0 100 n
  | 23 => inRange 200 2000 n
  | 24 => inRange 2 10 n
  | 25 => inRange 1 8 n
  | 26 => True
  | 27 => True
  | 28 => v.b2.toNat < 3 ∧ v.b3.toNat < 3 ∧ v.b4.toNat < 3 ∧ v.b5.toNat < 3 ∧ v.b6.toNat < 3 ∧ v.b7.toNat < 3
  | 29 => v.b2.toNat < 3
  | 30 => PatternAdmitted v
  | 31 => PatternAdmitted v
  | 32 => PatternAdmitted v
  | 33 => PatternAdmitted v
  | 34 => inRange 0 1000 n
  | _ => False
where
  /-- A length of 8, 9, 10 or 12 in byte 4 and a width of 1 to 4 in byte 5 (R164). -/
  PatternAdmitted (v : Payload) : Prop :=
    (v.b4.toNat = 8 ∨ v.b4.toNat = 9 ∨ v.b4.toNat = 10 ∨ v.b4.toNat = 12) ∧ inRange 1 4 v.b5.toNat

/-- The payload carries this entry: action in byte 1, start, end and factor in the value field (R164, R167). -/
def CarriesEntry (p : Payload) (e : Sector) : Prop :=
  p.b1 = SectorAction.code e.action ∧ (p.b2 ++ p.b3 : Word16).toNat = e.start ∧ (p.b4 ++ p.b5 : Word16).toNat = e.stop
    ∧ (p.b6 ++ p.b7 : Word16).toNat = e.factor

/-- The ten known operations as commands that carry this request, by their operation bytes (R163). -/
def serviceCommands (q : Request) : List (Byte × Instr) :=
  [(0x01#8, .readParam q), (0x02#8, .writeParam q), (0x03#8, .readEntry q), (0x04#8, .writeEntry q),
    (0x05#8, .trimEntries q), (0x06#8, .stageFromActive q), (0x07#8, .commit q), (0x08#8, .setEvents q),
    (0x09#8, .readLive q), (0x0A#8, .lineReset q)]

/-- The request that a service record carries (R8). -/
def requestOf (r : ServiceRecord) : Request :=
  { target := r.target, tag := r.tag, item := r.item, payload := r.payload }

/-- The state that stage 7 of the processing of `f` leaves (R23). -/
def State.throughChain (s : State) (f : Frame) : State := (s.throughMotion f).stageChain f

/-- R34, R161, R162: the state that stage 8 leaves: the record of `f` handled on the state that stage 7 left. -/
def State.throughService (s : State) (f : Frame) : State :=
  let x := (s.throughChain f).serve (frameRecord f)
  if frameService f = true then x.1.withSlot { x.1.slot with record := some x.2 }
  else (s.throughChain f).withSlot { (s.throughChain f).slot with record := none }

/-- R144: the three tests of the law of the active list, and its count, in the terms of the entries' indices. -/
def ActiveListLaw (es : List Sector) : Prop :=
  es.length ≤ 32
    ∧ (∀ i a b, es[i]? = some a → es[i + 1]? = some b → a.start < a.stop ∧ a.stop ≤ b.start)
    ∧ (∀ a z, es[0]? = some a → es.getLast? = some z → z.start < z.stop ∨ z.stop ≤ a.start)

/-- R152: what a commit asks of the staging bank. -/
def CommitPasses (b : Profile) : Prop :=
  b.params.radius ≠ 0 ∧ b.params.vmax ≠ 0 ∧ b.params.jointPeriodMin ≤ b.params.jointPeriodMax
    ∧ b.params.warnLimit < b.params.safetyLimit ∧ b.params.safetyLimit ≤ b.params.jointSpan ∧ ActiveListLaw b.entries

/-- R124: the on-time before MIN_ON is looked at. -/
def State.plainOnTime (s : State) : Nat := (s.demand.d * s.params.dutyPeriod + 500) / 1000

/-- R124: the on-time lies above 0 and below MIN_ON. -/
def State.OnTimeShort (s : State) : Prop := 0 < s.plainOnTime ∧ s.plainOnTime < s.params.minOn

/-- R123 to R125: `t` is `s` after the start of a DUTY period. `ready` says whether DRDY is taken with it: at a start outside
a processing, when it is active; at one made by the hand-over, not before the processing ends (R122). -/
def State.DutyStarted (s t : State) (ready : Bool) : Prop :=
  t.drive.latchedD = s.demand.d ∧ t.drive.dir = s.drive.dirRecord
    ∧ t.drive.period = some { length := 100 * s.params.dutyPeriod, left := 100 * s.params.dutyPeriod }
    ∧ (¬s.OnTimeShort → t.drive.onTime = s.plainOnTime)
    ∧ (s.OnTimeShort → t.drive.onTime = (if s.params.minOn ≤ 2 * s.plainOnTime then s.params.minOn else 0)
        ∧ t.demand.causes.short = true ∧ t.demand.sticky.short = true ∧ hasEvent t.events.flags .condition = true)
    ∧ (t.drive.onTime = 0 → t.drive.st = .resting ∧ t.drive.phase = none)
    ∧ (t.drive.onTime ≠ 0 → ready = true → t.drive.st = .running ∧ t.drive.phase = none)
    ∧ (t.drive.onTime ≠ 0 → ready = false → t.drive.st = .starting
        ∧ t.drive.phase = some { length := 100 * s.params.startTimeout, left := 100 * s.params.startTimeout })
    ∧ State.SameOutside [.demand, .drive, .events] s t ∧ State.OnlyRaises s t
    ∧ t.demand.d = s.demand.d ∧ t.demand.c = s.demand.c

/-- R45: the new state of the table, from a serving state. -/
def State.tableState (s : State) : NodeState :=
  if s.handActive = true then .manual
  else if s.slot.runPermit = false ∨ s.ctrl.machineRun = false ∨ s.params.radius = 0 ∨ s.params.vmax = 0 then .idle
  else if s.ctrl.holds.linkLost = true ∨ s.ctrl.holds.returnLost = true ∨ s.ctrl.holds.chain = true
      ∨ s.ctrl.holds.noSlot = true then .hold
  else .run

/-- R45: the conditions of the rows before the third fail: only the hold causes stand between HOLD and RUN. -/
def State.RunConditions (s : State) : Prop :=
  s.handActive = false ∧ s.slot.runPermit = true ∧ s.ctrl.machineRun = true ∧ s.params.radius ≠ 0 ∧ s.params.vmax ≠ 0

/-- R64 to R68: steps 1 to 6 on the inputs of the frame `f` at the node `s`: the active profile, the role, the rate of the
frame clamped to 6000, the latched ceiling and chain, the own limit of the input step, the sign of the frame's direction,
the joint angle that stage 4 uses. -/
def State.stageResult (s : State) (f : Frame) : MotionResult :=
  motionSteps s.params s.power.role (min 6000 (frameRate f)) s.slot.ceiling ((s.beginMotion f).inputStep f).ownLimit
    s.slot.chainOpen (if frameDirection f = .forward then 1 else -1) (s.stageMotion f).demand.theta

/-- R54, R82, R96, R97: the trip causes one computation requests, in the order in which they are taken. -/
def State.tripRequests (s : State) (f : Frame) : List TripCause :=
  s.captureRequest.toList
    ++ (if (s.stageMotion f).demand.causes.joint = true ∧ s.params.tripEnables.joint = true then [.joint] else [])
    ++ (if (s.stageResult f).overSpeed = true ∧ s.params.tripEnables.overSpeed = true then [.overSpeed] else [])
    ++ (if (s.stageResult f).underSpeed = true ∧ s.params.tripEnables.underSpeed = true then [.underSpeed] else [])
    ++ (if headerFieldBad f = true ∧ s.params.tripEnables.field = true then [.field] else [])

/-- R58: the acceptance conditions of a drive reset. -/
def State.DriveResetAccepted (s : State) : Prop :=
  s.safeActive = true
    ∧ (s.power.role = .endNode
        ∨ (s.joint.valid = true ∧ ∃ r, s.joint.reading = some r
            ∧ (jointAngle s.params r).natAbs < s.params.safetyLimit))
    ∧ (s.drive.st = .off ∨ s.drive.st = .faulted)

/-- The drive of `s` stopped, its timers off, no change of direction and no jog under way (R121, R131, R133). -/
def DriveBlock.stoppedAt (x : DriveBlock) (st : DriveState) : DriveBlock :=
  { x with st := st, rateRef := 0, period := none, phase := none, dirChange := false, jog := false }

/-- R132, R133: `y` is the drive `x` stopped, with this STOP_TIME and no start waiting: STOPPING from a state that energizes,
its phase timer at STOP_TIME, or OFF with STOP_TIME 0; OFF from RESTING; as it was from every other state. -/
def DriveBlock.StoppedTo (x y : DriveBlock) (stopTime : Nat) : Prop :=
  ((x.st = .starting ∨ x.st = .running) → stopTime ≠ 0 → y = { x with
      st := .stopping
      rateRef := 0
      period := none
      phase := some { length := 100 * stopTime, left := 100 * stopTime } })
    ∧ ((x.st = .starting ∨ x.st = .running) → stopTime = 0 → y = DriveBlock.stoppedAt x .off)
    ∧ (x.st = .resting → y = DriveBlock.stoppedAt x .off)
    ∧ (x.st = .off ∨ x.st = .stopping ∨ x.st = .faulted → y = x)

/-! ## The laws -/

/-- R75 and R78: the demand and the contribution are at most 1000, and 0 unless the node is RUN. -/
def State.DemandLaw (s : State) : Prop :=
  s.demand.d ≤ 1000 ∧ s.demand.c ≤ 1000 ∧ (s.ctrl.node ≠ .run → s.demand.d = 0 ∧ s.demand.c = 0)

/-- R36: the latched ceiling lies between 0 and 1000. -/
def State.CeilingLaw (s : State) : Prop := s.slot.ceiling ≤ 1000

/-- R56: a trip record is present whenever the node is TRIPPED, and absent in every state but TRIPPED and LOCAL. -/
def State.TripLaw (s : State) : Prop :=
  (s.ctrl.node = .tripped → s.ctrl.trip.isSome = true)
    ∧ (s.ctrl.trip.isSome = true → s.ctrl.node = .tripped ∨ s.ctrl.node = .manual)

/-- R132: DRIVE_RUN is de-energized whenever the node state is neither RUN nor LOCAL. -/
def State.DriveLaw (s : State) : Prop :=
  s.ctrl.node ≠ .run → s.ctrl.node ≠ .manual → DriveState.energizes s.drive.st = false

/-- R121 and R131: RATE_REF is 0 but in RUNNING in RATE mode; in OFF and FAULTED no timer runs, and no change of direction
and no jog is under way. -/
def State.RestLaw (s : State) : Prop :=
  (s.drive.st ≠ .running ∨ s.params.driveMode = .duty → s.drive.rateRef = 0)
    ∧ (s.drive.st = .off ∨ s.drive.st = .faulted →
        s.drive.period = none ∧ s.drive.phase = none ∧ s.drive.dirChange = false ∧ s.drive.jog = false)

/-- R125: a drive that waits in STARTING waits for DRDY. -/
def State.ReadyLaw (s : State) : Prop := s.drive.st = .starting → s.drdyActive = false

/-- R95: the joint hold count never exceeds HOLD_LIMIT of the active bank. -/
def State.HoldCountLaw (s : State) : Prop := s.joint.holdCount ≤ s.params.holdLimit

/-- R103: at END the measurement stays UNARMED, both flags stay clear, the last valid angle and the hold count stay 0. -/
def State.EndJointLaw (s : State) : Prop :=
  s.isEnd = true →
    s.joint.measurement = .unarmed ∧ s.joint.valid = false ∧ s.joint.fresh = false ∧ s.joint.lastTheta = 0
      ∧ s.joint.holdCount = 0

/-- R16 and R170: the return-miss count is at most RETURN_MISS_LIMIT of the active bank, and 0 at END. -/
def State.MissLaw (s : State) : Prop :=
  s.line.missCount ≤ s.params.returnMissLimit ∧ (s.isEnd = true → s.line.missCount = 0)

/-- The pending commit indication and the pending swap stand together (R154, R155). -/
def State.PendingLaw (s : State) : Prop := s.slot.pendingCommit = s.table.pendingSwap

/-- R144 and R152: the active list satisfies the law of R144; while a swap is pending the staging bank has passed the
validation. -/
def State.BankLaw (s : State) : Prop :=
  listLawful s.activeBank.entries = true ∧ (s.table.pendingSwap = true → Profile.commitable s.stagingBank = true)

/-- The banks and the indications together: what a profile swap relies on. -/
def State.TableLaw (s : State) : Prop := s.PendingLaw ∧ s.BankLaw

/-- R141, R143: both banks lie within the ranges. -/
def State.RangeLaw (s : State) : Prop := Profile.InRange s.table.bankA ∧ Profile.InRange s.table.bankB

/-- A safe state: every law above holds. A safe run answers a next state at every step, each of them lawful. -/
def State.Lawful (s : State) : Prop :=
  s.DemandLaw ∧ s.CeilingLaw ∧ s.TripLaw ∧ s.DriveLaw ∧ s.RestLaw ∧ s.ReadyLaw ∧ s.HoldCountLaw ∧ s.EndJointLaw
    ∧ s.MissLaw ∧ s.TableLaw ∧ s.RangeLaw

/-- An invariant that every step keeps, whatever the state it starts from. -/
def State.KeptByStep (inv : State → Prop) : Prop := ∀ s t, inv s → step s = .next t → inv t

end Sys2Proof.Machine
end

