-- ==== Sys2Proof/Certificates/Slice0/Obligations.lean ====
section
/-! DEFINITION. The statements for the provers, one per obligation. `exec c s = .next t` says that the command completes;
a `t` written out, or `State.SameOutside`, is the command's frame. -/

open Sys2Proof Sys2Proof.Machine

/-! ## The queue, the straps, the held reset -/

/-- The model's own (the queue of commands; log 5): a step runs the front command on the queue's rest, and idles on an
empty queue. -/
def Obligations.StepRunsFrontCommand : Prop :=
  (∀ (c : Instr) (rest : List Instr) (s : State), s.pending = c :: rest → step s = exec c (s.withPending rest))
    ∧ ∀ s : State, s.pending = [] → step s = .next s

/-- R189, R190: INITIALISATION_END latches the index that IDX4 to IDX0 form and the role that ROLE selects, an unconnected strap
reading 0, and every block takes its power-on state; no other command changes the latched index and role. That every command
completes and leaves the queue is the model's own (the queue, log 5; a command whose event cannot arise, log 2), and so are
the reference count at 0 and no sample due (log 26). -/
def Obligations.OnlyInitialisationChangesStraps : Prop :=
  (∀ (c : Instr) (s : State), ∃ t, exec c s = .next t ∧ t.pending = s.pending
    ∧ ((∀ index role, c ≠ .initialisationEnd index role) → t.power.index = s.power.index ∧ t.power.role = s.power.role))
  ∧ ∀ (index : IndexStraps) (role : StrapPin) (s : State), s.power.initialising = true →
    let one (x : StrapPin) : Nat := if x = .tied .high then 1 else 0
    ∃ t, exec (.initialisationEnd index role) s = .next t
      ∧ t.power.index.toNat = 16 * one index.idx4 + 8 * one index.idx3 + 4 * one index.idx2 + 2 * one index.idx1
          + one index.idx0
      ∧ t.power.role = (if role = .tied .high then .endNode else .mid)
      ∧ t.power = { s.power with
          initialising := false, index := t.power.index, role := t.power.role, refTick := 0, sampleDue := noSampleDue }
      ∧ t.BlocksAtReset ∧ t.TableAtReset ∧ t.pending = s.pending

/-- R189, R191: SUPPLY_OK rising begins the initialisation, falling returns the part to the held reset; outputs and
line rest either way. While the part is held, every command but those of the supply and the reset pin leaves the state
as it is (the model's choice, log 2). That all blocks rest at once is the model's choice (log 24). -/
def Obligations.HeldResetRestsOutputs : Prop :=
  ((∀ s : State, s.power.supplyOk = false → ∃ t, exec .powerOnReset s = .next t
        ∧ t.power = { s.power with supplyOk := true, initialising := true, refTick := 0, sampleDue := noSampleDue }
        ∧ t.released = false ∧ t.OutputsHeld ∧ t.pending = s.pending)
      ∧ ∀ s : State, s.power.supplyOk = true → ∃ t, exec .supplyLoss s = .next t
        ∧ t.power = { s.power with supplyOk := false, initialising := false, refTick := 0, sampleDue := noSampleDue }
        ∧ t.released = false ∧ t.OutputsHeld ∧ t.LineAtReset ∧ t.pending = s.pending)
  ∧ (∀ (c : Instr) (s : State), s.released = false → c ≠ .powerOnReset → c ≠ .supplyLoss → c ≠ .pinReset →
      c ≠ .pinResetRelease → (∀ index role, c ≠ .initialisationEnd index role) → exec c s = .next s)

/-- R191: RESETn low resets every block and holds the outputs; RESETn high releases the part at once unless the supply
or the initialisation holds it, and the straps stand. The reference count at 0 and no sample due are the
model's (log 26). -/
def Obligations.PinResetAndRelease : Prop :=
  (∀ s : State, ∃ t, exec .pinReset s = .next t ∧ t.power = { s.power with resetLow := true }
      ∧ t.BlocksAtReset ∧ t.TableAtReset ∧ t.OutputsHeld ∧ t.pending = s.pending)
    ∧ ∀ s : State, s.power.resetLow = true → ∃ t, exec .pinResetRelease s = .next t
      ∧ t = s.withPower { s.power with resetLow := false, refTick := 0, sampleDue := noSampleDue }
      ∧ t.released = (s.power.supplyOk && !s.power.initialising)

/-- R22, R42, R158, R173, R174: a waiting line reset waits until both transmit buffers are empty; then every block is reset,
and SOFT keeps the Crossing Table and the pending commit indication. While it waits, frames that arrive are dropped, and a
frame in a waiting place is neither processed, matched nor taken at the end of a transmission. That a frame taken before
the order still leaves is read from R22 and R35 (log 16); that taking has two steps is the model's (log 7). -/
def Obligations.LineResetTakesEffect : Prop :=
  ∀ (k : LineResetKind) (s : State), s.released = true → s.line.waitingReset = some k →
    ((s.line.txInner ≠ .empty ∨ s.line.txOuter ≠ .empty) → exec .lineResetEffect s = .next s)
    ∧ (s.line.txInner = .empty → s.line.txOuter = .empty →
        ∃ t, exec .lineResetEffect s = .next t ∧ t.power = s.power ∧ t.pending = s.pending ∧ t.BlocksAtReset
          ∧ (k = .hard → t.TableAtReset)
          ∧ (k = .soft → t.table = s.table ∧ t.slot.pendingCommit = s.slot.pendingCommit))
    ∧ (∀ link burst, exec (.frameArrival link burst) s = .next s)
    ∧ ((∀ f, s.line.txInner ≠ .taken f) → exec .inboundTake s = .next s)
    ∧ ((∀ f, s.outboundTx ≠ .taken f) → exec .outboundProcessing s = .next s)
    ∧ (∀ g, s.line.txInner = .sending g → exec (.transmitComplete .inner) s
        = .next (s.withLine { s.line with txInner := .empty }))
    ∧ (∀ g, s.line.txOuter = .sending g → exec (.transmitComplete .outer) s
        = .next (s.withLine { s.line with txOuter := .empty }))

/-! ## The span line -/

/-- R10, R11: a frame that fails any of the tests, and every frame on END's outer link, is discarded with LINE_ERROR
and nothing else. The burst as one operand is the model's (log 6). -/
def Obligations.FailingFrameIsDiscarded : Prop :=
  ∀ (link : Link) (burst : List RxByte) (s : State), s.released = true → s.line.waitingReset = none →
    (BurstFails link burst ∨ (s.power.role = .endNode ∧ link = .outer)) →
    exec (.frameArrival link burst) s = .next (s.raise .lineError)

/-- R12, R17, R18, R45, R50: a valid outbound frame is taken at its arrival when its transmit buffer is empty, restarts the
frame timeout and clears LINK_LOST; as LINK_LOST leaves, a serving node takes the state of the table, so a HOLD node goes to
RUN when it was the last cause. The burst as one operand and the two-step taking are the model's (logs 6, 7). -/
def Obligations.OutboundFrameIsTaken : Prop :=
  ∀ (burst : List RxByte) (s : State), s.released = true → s.line.waitingReset = none → ¬BurstFails .inner burst →
    s.line.rxInner = none → s.outboundTx = .empty →
    ∃ t, exec (.frameArrival .inner burst) s = .next t
      ∧ t.line.frameTimer = some (Timer.start (s.params.cyclePeriod * s.params.linkMissLimit))
      ∧ (s.power.role = .endNode → t.line.txInner = .taken (burst.map RxByte.data) ∧ t.line.txOuter = s.line.txOuter)
      ∧ (s.power.role = .mid → t.line.txOuter = .taken (burst.map RxByte.data) ∧ t.line.txInner = s.line.txInner)
      ∧ t.line.rxInner = none ∧ t.line.rxOuter = s.line.rxOuter ∧ t.line.returnRec = s.line.returnRec
      ∧ t.line.missCount = s.line.missCount ∧ t.line.lastOut = s.line.lastOut ∧ t.line.waitingReset = none
      ∧ t.ctrl.holds = { s.ctrl.holds with linkLost := false }
      ∧ (s.ctrl.holds.linkLost = false → t.ctrl = s.ctrl ∧ t.demand = s.demand ∧ t.drive = s.drive)
      ∧ (s.ctrl.holds.linkLost = true → (s.ctrl.node = .idle ∨ s.ctrl.node = .run ∨ s.ctrl.node = .hold) →
          t.ctrl.node = (s.withCtrl { s.ctrl with holds := { s.ctrl.holds with linkLost := false } }).tableState)
      ∧ State.SameOutside [.line, .ctrl, .demand, .drive, .events] s t ∧ State.OnlyRaises s t

/-- R12, R13, R17, R50: at a MID node a valid inbound frame is taken when the inner transmit buffer is empty and none waits,
waits when it is not, and displaces a waiting frame with LINE_ERROR. The outbound frame waits and displaces likewise, and
restarts the frame timeout and clears LINK_LOST either way, with the evaluation that brings. The two-step taking is the model's (logs 6, 7). -/
def Obligations.BlockedFrameWaitsOrDisplaces : Prop :=
  (∀ (burst : List RxByte) (s : State), s.released = true → s.line.waitingReset = none → s.power.role = .mid →
    ¬BurstFails .outer burst →
    (s.line.rxOuter = none → s.line.txInner = .empty →
        exec (.frameArrival .outer burst) s
          = .next (s.withLine { s.line with txInner := .taken (burst.map RxByte.data) }))
    ∧ (s.line.rxOuter = none → s.line.txInner ≠ .empty →
        exec (.frameArrival .outer burst) s = .next (s.withLine { s.line with rxOuter := some (burst.map RxByte.data) }))
    ∧ (∀ g, s.line.rxOuter = some g →
        exec (.frameArrival .outer burst) s
          = .next ((s.withLine { s.line with rxOuter := some (burst.map RxByte.data) }).raise .lineError)))
  ∧ ∀ (burst : List RxByte) (s : State), s.released = true → s.line.waitingReset = none → ¬BurstFails .inner burst →
    (s.line.rxInner ≠ none ∨ s.outboundTx ≠ .empty) →
    ∃ t, exec (.frameArrival .inner burst) s = .next t ∧ t.line.rxInner = some (burst.map RxByte.data)
      ∧ t.line.frameTimer = some (Timer.start (s.params.cyclePeriod * s.params.linkMissLimit))
      ∧ t.ctrl.holds = { s.ctrl.holds with linkLost := false }
      ∧ (s.ctrl.holds.linkLost = false → t.ctrl = s.ctrl ∧ t.demand = s.demand ∧ t.drive = s.drive)
      ∧ (s.ctrl.holds.linkLost = true → (s.ctrl.node = .idle ∨ s.ctrl.node = .run ∨ s.ctrl.node = .hold) →
          t.ctrl.node = (s.withCtrl { s.ctrl with holds := { s.ctrl.holds with linkLost := false } }).tableState)
      ∧ t.line.txInner = s.line.txInner ∧ t.line.txOuter = s.line.txOuter ∧ t.line.rxOuter = s.line.rxOuter
      ∧ (s.line.rxInner ≠ none → hasEvent t.events.flags .lineError = true)
      ∧ State.SameOutside [.line, .ctrl, .demand, .drive, .events] s t ∧ State.OnlyRaises s t

/-- R12: the end of a transmission empties the buffer and takes the frame that waits for it; R22: not while a line
reset waits. The two-step taking is the model's (log 7). -/
def Obligations.TransmissionEndTakesWaitingFrame : Prop :=
  (∀ (g : Frame) (s : State), s.released = true → s.power.role = .mid → s.line.txOuter = .sending g →
    (s.line.rxInner = none ∨ s.line.waitingReset ≠ none →
        exec (.transmitComplete .outer) s = .next (s.withLine { s.line with txOuter := .empty }))
    ∧ (∀ f, s.line.waitingReset = none → s.line.rxInner = some f →
        exec (.transmitComplete .outer) s = .next (s.withLine { s.line with txOuter := .taken f, rxInner := none })))
  ∧ (∀ (g : Frame) (s : State), s.released = true → s.power.role = .mid → s.line.txInner = .sending g →
    (s.line.rxOuter = none ∨ s.line.waitingReset ≠ none →
        exec (.transmitComplete .inner) s = .next (s.withLine { s.line with txInner := .empty }))
    ∧ (∀ f, s.line.waitingReset = none → s.line.rxOuter = some f →
        exec (.transmitComplete .inner) s = .next (s.withLine { s.line with txInner := .taken f, rxOuter := none })))
  ∧ ∀ (g : Frame) (s : State), s.released = true → s.power.role = .endNode → s.line.txInner = .sending g →
    (s.line.rxInner = none ∨ s.line.waitingReset ≠ none →
        exec (.transmitComplete .inner) s = .next (s.withLine { s.line with txInner := .empty }))
    ∧ (∀ f, s.line.waitingReset = none → s.line.rxInner = some f →
        exec (.transmitComplete .inner) s = .next (s.withLine { s.line with txInner := .taken f, rxInner := none }))

/-- R18, R48, R50, R132: the expiry of the frame timeout sets LINK_LOST, raises its event, starts the timer again, and takes a
RUN node out of RUN with d and c at 0 and the drive stopped, to HOLD when its run conditions stand. With LINK_LOST present
already the node, its demand and its drive stay. The command is the expiry of a timer with no time
left, and nothing before (log 3). -/
def Obligations.FrameTimeoutHoldsNode : Prop :=
  ∀ (s : State), s.released = true →
    (s.line.frameTimer = none → exec .frameTimeout s = .next s)
    ∧ (∀ x, s.line.frameTimer = some x → x.left ≠ 0 → exec .frameTimeout s = .next s)
    ∧ (∀ x, s.line.frameTimer = some x → x.left = 0 → ∃ t, exec .frameTimeout s = .next t
      ∧ t.line = { s.line with frameTimer := some (Timer.start (s.params.cyclePeriod * s.params.linkMissLimit)) }
      ∧ t.ctrl.holds = { s.ctrl.holds with linkLost := true } ∧ hasEvent t.events.flags .linkLost = true
      ∧ (s.ctrl.node = .run → s.ctrl.holds.linkLost = false →
          t.ctrl.node ≠ .run ∧ t.demand.d = 0 ∧ t.demand.c = 0 ∧ (s.RunConditions → t.ctrl.node = .hold)
            ∧ (s.handActive = false → DriveBlock.StoppedTo s.drive t.drive s.params.stopTime))
      ∧ (s.ctrl.holds.linkLost = true → t.ctrl = s.ctrl ∧ t.demand = s.demand ∧ t.drive = s.drive)
      ∧ State.SameOutside [.line, .ctrl, .demand, .drive, .events] s t ∧ State.OnlyRaises s t)

/-- R19, R48, R50, R132: the return check of a MID node at the taking of an outbound frame; the entry of RETURN_LOST takes a
RUN node to HOLD and stops its drive. -/
def Obligations.ReturnMissIsCounted : Prop :=
  ∀ (seq : Word16) (s : State), s.power.role = .mid →
    (∀ r, s.line.returnRec = some r → r.returned = false →
        (s.returnCheck seq).line = { s.line with
            returnRec := some { seq := seq, returned := false },
            missCount := min s.params.returnMissLimit (s.line.missCount + 1) }
        ∧ (s.params.returnMissLimit ≤ s.line.missCount + 1 →
            (s.returnCheck seq).ctrl.holds = { s.ctrl.holds with returnLost := true }
              ∧ hasEvent (s.returnCheck seq).events.flags .returnLost = true
              ∧ (s.ctrl.node = .run → s.ctrl.holds.returnLost = false → s.RunConditions →
                  (s.returnCheck seq).ctrl.node = .hold ∧ (s.returnCheck seq).demand.d = 0
                    ∧ (s.returnCheck seq).demand.c = 0
                    ∧ DriveBlock.StoppedTo s.drive (s.returnCheck seq).drive s.params.stopTime))
        ∧ (s.line.missCount + 1 < s.params.returnMissLimit →
            (s.returnCheck seq).ctrl = s.ctrl ∧ (s.returnCheck seq).events = s.events))
    ∧ ((s.line.returnRec = none ∨ ∃ r, s.line.returnRec = some r ∧ r.returned = true) →
        s.returnCheck seq = s.withLine { s.line with returnRec := some { seq := seq, returned := false } })

/-- R15, R20, R36, R38, R39, R50, R132: an inbound frame is sent on unchanged. One that does not match the return record changes
nothing else; a matching one marks its record, clears the count and RETURN_LOST, latches ceiling and chain, and enters or
releases CHAIN: CHAIN_STOP is raised at the entry unless this node is the opener, a RUN node goes to HOLD and
stops its drive as the cause enters, and a HOLD node to RUN as the last cause leaves. The two-step taking is the model's (log 7);
that a frame taken before a line reset was ordered is still matched and sent is read from R22 and R35 (log 16). -/
def Obligations.InboundFrameIsForwardedAndLatched : Prop :=
  (∀ (f : Frame) (s : State), s.released = true → s.power.role = .mid → s.line.txInner = .taken f →
      s.line.returnRec ≠ some { seq := frameSeq f, returned := false } →
      exec .inboundTake s = .next (s.withLine { s.line with txInner := .sending f }))
  ∧ (∀ (f : Frame) (s : State), s.released = true → s.power.role = .mid → s.line.txInner = .taken f →
      s.line.returnRec = some { seq := frameSeq f, returned := false } →
      ∃ t, exec .inboundTake s = .next t
        ∧ t.line = { s.line with
            txInner := .sending f, returnRec := some { seq := frameSeq f, returned := true }, missCount := 0 }
        ∧ t.slot = { s.slot with ceiling := min 1000 (frameCeiling f), chainOpen := frameChainOpen f }
        ∧ t.ctrl.holds = { s.ctrl.holds with
            returnLost := false,
            chain := frameChainOpen f || (s.ctrl.holds.chain && !decide (s.slot.outChain = .closed)) }
        ∧ (frameChainOpen f = true → s.ctrl.holds.chain = false → s.slot.outChain ≠ .openedHere →
            hasEvent t.events.flags .chainStop = true)
        ∧ (frameChainOpen f = false ∨ s.ctrl.holds.chain = true ∨ s.slot.outChain = .openedHere →
            hasEvent t.events.flags .chainStop = hasEvent s.events.flags .chainStop)
        ∧ (frameChainOpen f = true → s.ctrl.holds.chain = false → s.ctrl.node = .run → s.RunConditions →
            t.ctrl.node = .hold ∧ t.demand.d = 0 ∧ t.demand.c = 0
              ∧ DriveBlock.StoppedTo s.drive t.drive s.params.stopTime)
        ∧ (frameChainOpen f = false → s.slot.outChain = .closed → s.ctrl.node = .hold → s.RunConditions →
            s.ctrl.holds.linkLost = false → s.ctrl.holds.noSlot = false →
            (s.ctrl.holds.chain = true ∨ s.ctrl.holds.returnLost = true) → t.ctrl.node = .run)
        ∧ State.SameOutside [.line, .slot, .ctrl, .demand, .drive, .events] s t ∧ State.OnlyRaises s t)

/-! ## Outbound processing -/

/-- R12, R19, R34, R35, R44, R109, R122, R125, R162, R187: a taken outbound frame is always processed and sent; the state
afterwards, and what processing leaves unchanged. Its record is handled in stage 8 as the command of its operation handles it
on the state stage 7 left, and the stall test against the threshold that then holds ends the processing. A drive that stage 4
left STARTING enters RUNNING when the stages are over and DRDY is active (R23, R122, R125, R138: log 37). The two-step taking
is the model's (log 7), that stage 8's effect is the command's own too (log 8); that a frame taken before a line reset was
ordered is processed is read from R22 and R35 (log 16), and that the stall test comes before END's latch from R109 (log
27). -/
def Obligations.TakenFrameIsProcessedAndSent : Prop :=
  ∀ (f : Frame) (s : State), s.released = true → s.outboundTx = .taken f →
    ∃ t, exec .outboundProcessing s = .next t
      ∧ (s.power.role = .mid → t.line.txOuter = .sending (s.processFrame f).2 ∧ t.line.txInner = s.line.txInner
          ∧ t.line.returnRec = some { seq := frameSeq f, returned := false })
      ∧ (s.power.role = .endNode → t.line.txInner = .sending (s.processFrame f).2 ∧ t.line.txOuter = s.line.txOuter
          ∧ t.line.returnRec = s.line.returnRec ∧ t.line.missCount = s.line.missCount)
      ∧ t.line.lastOut = frameSeq f ∧ t.line.rxInner = s.line.rxInner ∧ t.line.rxOuter = s.line.rxOuter
      ∧ t.line.frameTimer = s.line.frameTimer
      ∧ t.lamp = { stepCount := frameSeq f, stepTimer := some (Timer.start t.params.cyclePeriod) }
      ∧ t.ctrl.machineRun = frameMachineRun f ∧ t.drive.dirRecord = frameDirection f
      ∧ t.power = s.power ∧ t.pending = s.pending
      ∧ (FrameSized f →
          let u := s.throughChain f
          let v := s.throughService f
          let r := frameRecord f
          let threshold := if v.inSector .watch = true then v.params.stallTicks / 2 else v.params.stallTicks
          (frameService f = true → s.line.waitingReset = none → u.table.pendingSwap = false → r.result = 0#8 →
            (∀ c, (r.op, c) ∈ serviceCommands (requestOf r) → exec c u = .next v)
              ∧ (¬inRange 1 10 r.op.toNat → exec (.unknownOp r.op (requestOf r)) u = .next v))
          ∧ (t.drive.st = .starting → t.drdyActive = false)
          ∧ (v.wheel.frozen = true ∨ v.wheel.counter < threshold → t.wheel = v.wheel
              ∧ (s.power.role = .mid → (v.drive.st ≠ .starting ∨ v.drdyActive = false) →
                  t = v.withOutboundTx (.sending (s.processFrame f).2))
              ∧ (s.power.role = .mid → v.drive.st = .starting → v.drdyActive = true →
                  t = (v.withDrive { v.drive with
                    st := .running
                    phase := none
                    rateRef := if v.params.driveMode = .duty then 0
                      else if v.drive.jog = true then v.params.jogDemand else v.demand.d }).withOutboundTx
                        (.sending (s.processFrame f).2)))
          ∧ (v.wheel.frozen = false → threshold ≤ v.wheel.counter →
              t.wheel = { v.wheel with frozen := true } ∧ hasEvent t.events.flags .stall = true
              ∧ (v.params.tripEnables.stall = true → v.handActive = false →
                  (v.ctrl.node = .idle ∨ v.ctrl.node = .run ∨ v.ctrl.node = .hold) → t.ctrl.node = .tripped
                    ∧ t.ctrl.trip = some { cause := .stall, seq := frameSeq f, extra := 0 }))
          ∧ t.table = v.table ∧ t.slot.record = v.slot.record ∧ t.slot.pendingCommit = v.slot.pendingCommit
          ∧ t.line.waitingReset = v.line.waitingReset ∧ t.events.enable = v.events.enable
          ∧ t.events.high = v.events.high ∧ t.joint = v.joint ∧ t.inputs = v.inputs)

/-- The law of the forwarded frame (R14): a forwarded frame differs from the frame received only in the places the law
allows, keeps its length, and carries its own check. Of the control byte only the chain changes, and at END the pass. The
record it carries is the one received, handled on the state that stage 7 left (R34, R161, R162), END's turn-around not yet
made (R162; for what READ_LIVE then returns at END, log 36). -/
def Obligations.ForwardedFrameLaw : Prop :=
  ∀ (f : Frame) (s : State), FrameSized f →
    (s.processFrame f).2.length = f.length
      ∧ (∀ i, ¬s.MayChange f i → byteAt (s.processFrame f).2 i = byteAt f i)
      ∧ (∀ b, b < 8 → b ≠ 0 → b ≠ 3 → (byteAt (s.processFrame f).2 1).getLsbD b = (byteAt f 1).getLsbD b)
      ∧ (s.power.role = .mid → frameInbound (s.processFrame f).2 = frameInbound f)
      ∧ checkHolds (s.processFrame f).2 = true
      ∧ (frameService f = true → frameRecord (s.processFrame f).2 = ((s.throughChain f).serve (frameRecord f)).2)

/-- R32: the outgoing ceiling is the smaller of the arriving one, clamped to 1000, and the contribution that stage 4 left;
it is never above the arriving ceiling nor above 1000, and is 0 unless stage 4 left the node RUN. -/
def Obligations.CeilingNeverRises : Prop :=
  ∀ (f : Frame) (s : State), FrameSized f →
    frameCeiling (s.processFrame f).2 = min (min 1000 (frameCeiling f)) (s.throughMotion f).demand.c
      ∧ frameCeiling (s.processFrame f).2 ≤ frameCeiling f ∧ frameCeiling (s.processFrame f).2 ≤ 1000
      ∧ ((s.throughMotion f).ctrl.node ≠ .run → frameCeiling (s.processFrame f).2 = 0)

/-- R33, R38, R48, R132: a node that stage 4 leaves TRIPPED, LOCAL or in STANDBY with strap fault sends the chain OPEN, with its
index (31 when invalid) as opener if it arrived CLOSED; otherwise chain and opener go on as they arrived. What stage 7 leaves in
the outbound chain record. CHAIN enters at the taking of an OPEN frame, with CHAIN_STOP and the HOLD and stop of a RUN node, and
in stage 7 without the event when the node opens the chain itself; at a MID node nothing of the processing removes it. -/
def Obligations.StoppedNodeOpensChain : Prop :=
  ∀ (f : Frame) (s : State), FrameSized f →
    let stops := (s.throughMotion f).ctrl.node = .tripped ∨ (s.throughMotion f).ctrl.node = .manual
      ∨ (s.throughMotion f).ctrl.node = .standby true
    (stops → frameChainOpen (s.processFrame f).2 = true)
      ∧ (stops → frameChainOpen f = false → (byteAt (s.processFrame f).2 10).toNat =
          if 1 ≤ s.power.index.toNat ∧ s.power.index.toNat ≤ 30 then s.power.index.toNat else 31)
      ∧ (¬stops ∨ frameChainOpen f = true → frameChainOpen (s.processFrame f).2 = frameChainOpen f
          ∧ byteAt (s.processFrame f).2 10 = byteAt f 10)
      ∧ (frameChainOpen f = true → (s.processFrame f).1.slot.outChain = .openedElsewhere)
      ∧ (stops → frameChainOpen f = false → (s.processFrame f).1.slot.outChain = .openedHere)
      ∧ (¬stops → frameChainOpen f = false → (s.processFrame f).1.slot.outChain = .closed)
      ∧ (s.power.role = .mid → ((s.processFrame f).1.ctrl.holds.chain = true ↔
          s.ctrl.holds.chain = true ∨ frameChainOpen f = true ∨ stops))
      ∧ hasEvent (s.throughChain f).events.flags .chainStop = hasEvent (s.throughMotion f).events.flags .chainStop
      ∧ (frameChainOpen f = true → s.ctrl.holds.chain = false →
          (s.takeOutbound f).ctrl.holds.chain = true ∧ hasEvent (s.takeOutbound f).events.flags .chainStop = true
            ∧ (s.ownsSlot f = false ∨ (slotClearSet f s.indexNat).getLsbD 7 = false →
                hasEvent (s.processFrame f).1.events.flags .chainStop = true)
            ∧ (s.ctrl.node = .run → s.RunConditions → (s.takeOutbound f).ctrl.node = .hold
                ∧ (s.takeOutbound f).demand.d = 0 ∧ (s.takeOutbound f).demand.c = 0
                ∧ DriveBlock.StoppedTo s.drive (s.takeOutbound f).drive s.params.stopTime))
      ∧ (frameChainOpen f = false ∨ s.ctrl.holds.chain = true →
          hasEvent (s.processFrame f).1.events.flags .chainStop = true → hasEvent s.events.flags .chainStop = true)

/-- R7, R30: the status bytes of an owned slot, each from the block that owns it as stage 4 left it. -/
def Obligations.StatusDescribesNode : Prop :=
  ∀ (f : Frame) (s : State), FrameSized f → s.ownsSlot f = true →
    let g := (s.processFrame f).2
    let u := s.throughMotion f
    let k := slotAt s.indexNat
    byteAt g (k + 3) = 0x80#8 ||| NodeState.code u.ctrl.node
      ∧ byteAt g (k + 4) = DriveState.code u.drive.st ||| (LastResult.code u.ctrl.driveResult <<< 3)
          ||| (LastResult.code u.table.lastCommit <<< 5)
      ∧ byteAt g (k + 5) = u.table.generation
      ∧ word16At g (k + 6) = BitVec.ofNat 16 u.demand.d
      ∧ word16At g (k + 8) = BitVec.ofInt 16 u.demand.theta
      ∧ word16At g (k + 10) = BitVec.ofNat 16 (min 65535 (measuredSpeed u.params u.wheel.period u.wheel.frozen))
      ∧ word16At g (k + 12) = BitVec.ofNat 16 u.demand.c
      ∧ byteAt g (k + 14) = BitVec.ofNat 8 (topEvent u.events)
      ∧ word16At g (k + 15) = u.events.flags
      ∧ byteAt g (k + 17) = Conditions.code u.demand.causes
      ∧ (u.ctrl.trip = none → byteAt g (k + 18) = 0 ∧ byteAt g (k + 19) = 0)
      ∧ (∀ r, u.ctrl.trip = some r →
          byteAt g (k + 18) = TripCause.code r.cause ∧ byteAt g (k + 19) = BitVec.ofNat 8 r.extra)

/-- R16, R37, R39: END turns the frame's pass, latches the ceiling and chain it sends, and CHAIN stands exactly when the
turned frame is OPEN. -/
def Obligations.EndTurnsAndLatches : Prop :=
  ∀ (f : Frame) (s : State), FrameSized f → s.power.role = .endNode →
    frameInbound (s.processFrame f).2 = true
      ∧ (s.processFrame f).1.slot.ceiling = frameCeiling (s.processFrame f).2
      ∧ (s.processFrame f).1.slot.chainOpen = frameChainOpen (s.processFrame f).2
      ∧ (s.processFrame f).1.ctrl.holds.chain = frameChainOpen (s.processFrame f).2

/-- R24, R155, R171: with the pending commit indication set, stage 1 exchanges the banks, and the blocks that hold state
shaped by the old one act: Joint Capture (R102), Wheel Monitor (R118), Drive Sequencer (R135), Line Interface (R19), Input
Conditioner (R178). With it clear, the table stays. Read from the spec by the model: SAFETY raised at the swap itself in a
serving state, and SAFE counted when DRDY turned over by the same swap has tripped the node (log 11, in the order of log 10);
RETURN_LOST raised also at a limit equal to a count that stands at it already (log 28). -/
def Obligations.PendingCommitSwapsBanks : Prop :=
  ∀ (f : Frame) (s : State),
    (s.slot.pendingCommit = true →
      let t := s.stageSwap f
      let new := s.stagingBank.params
      t.activeBank = s.stagingBank ∧ t.stagingBank = s.activeBank
        ∧ t.table.generation.toNat = (s.table.generation.toNat + 1) % 256
        ∧ t.table.lastCommit = .done ∧ t.table.pendingSwap = false
        ∧ t.slot = { s.slot with pendingCommit := false, swapMade := true }
        ∧ hasEvent t.events.flags .profile = true ∧ t.table.lastAngle = s.table.lastAngle
        ∧ t.table.lookup = s.table.lastAngle.bind (lookupIn s.stagingBank.entries)
        ∧ (s.joint.fresh = false → t.joint = { s.joint with holdCount := min s.joint.holdCount new.holdLimit })
        ∧ (∀ r, s.joint.fresh = true → s.joint.reading = some r → t.joint = { s.joint with
            valid := readingValid new r, holdCount := min s.joint.holdCount new.holdLimit })
        ∧ t.wheel = (if s.params.teeth ≠ new.teeth ∧ s.wheel.frozen = false then
            { s.wheel with period := 0, armed := false } else s.wheel)
        ∧ (s.power.role = .mid → new.returnMissLimit ≤ s.line.missCount →
            t.line = { s.line with missCount := new.returnMissLimit }
              ∧ t.ctrl.holds = { s.ctrl.holds with returnLost := true } ∧ hasEvent t.events.flags .returnLost = true)
        ∧ (s.power.role = .endNode ∨ s.line.missCount < new.returnMissLimit →
            t.line = s.line ∧ t.ctrl.holds = s.ctrl.holds)
        ∧ (∀ i, PerInput.get t.inputs i = { PerInput.get s.inputs i with
            samples := if PerInput.get s.params.inputFilter i = PerInput.get new.inputFilter i then
              (PerInput.get s.inputs i).samples else none })
        ∧ (s.params.inputPolarity.safe ≠ new.inputPolarity.safe → s.safeActive = true →
            (s.ctrl.node = .idle ∨ s.ctrl.node = .run ∨ s.ctrl.node = .hold) →
            hasEvent t.events.flags .safety = true)
        ∧ (s.params.inputPolarity.safe ≠ new.inputPolarity.safe → s.safeActive = true →
            s.params.inputPolarity.drdy ≠ new.inputPolarity.drdy → s.drdyActive = true →
            s.params.inputPolarity.hand = new.inputPolarity.hand → s.handActive = false →
            s.ctrl.node = .run → s.drive.st = .running → s.params.driveMode = new.driveMode →
            (s.power.role = .endNode ∨ s.line.missCount < new.returnMissLimit) →
            t.ctrl.node = .tripped
              ∧ t.ctrl.trip = some { cause := .driveFault, seq := s.line.lastOut, extra := 1 }
              ∧ t.drive.st = .faulted ∧ hasEvent t.events.flags .driveFault = true)
        ∧ (∀ level, s.params.inputPolarity.aux ≠ new.inputPolarity.aux → s.inputs.aux.pin = some level →
            s.params.auxEdge = new.auxEdge →
            hasEvent t.events.flags .aux = (hasEvent s.events.flags .aux
              || decide (new.auxEdge = .both ∨ (new.auxEdge = .rising ∧ s.inputActive .aux = false)
                  ∨ (new.auxEdge = .falling ∧ s.inputActive .aux = true))))
        ∧ (s.params.inputPolarity = new.inputPolarity →
            (s.power.role = .endNode ∨ s.line.missCount < new.returnMissLimit) →
            t.ctrl = s.ctrl
            ∧ (s.params.driveMode = new.driveMode →
                t.drive = if new.driveMode = .rate ∧ s.drive.jog = true ∧ s.drive.st = .running then
                  { s.drive with rateRef := new.jogDemand } else s.drive)
            ∧ (s.params.driveMode ≠ new.driveMode → (s.drive.st = .starting ∨ s.drive.st = .running) →
                new.stopTime ≠ 0 → t.drive = { s.drive with
                  st := .stopping
                  rateRef := 0
                  period := none
                  phase := some { length := 100 * new.stopTime, left := 100 * new.stopTime } })
            ∧ (s.params.driveMode ≠ new.driveMode → s.drive.st = .resting →
                t.drive = DriveBlock.stoppedAt s.drive .off)
            ∧ (s.params.driveMode ≠ new.driveMode →
                (s.drive.st = .off ∨ s.drive.st = .stopping ∨ s.drive.st = .faulted) → t.drive = s.drive)))
    ∧ (s.slot.pendingCommit = false → State.SameOutside [.slot, .lamp] s (s.stageSwap f)
        ∧ (s.stageSwap f).slot = { s.slot with swapMade := false })

/-- R23, R25, R26, R27, R44 to R47, R190: what the slot situation does in stages 2 to 4, an invalid strapped index among them, and that stage 4 takes a node out of plain
STANDBY unless stage 2 found a strap fault. Stage 4 works on the state that the stages before it left, and leaves a serving or
plain STANDBY node with no trip in the state of the table, by the frame's command record and machine mode. -/
def Obligations.SlotSituationDecides : Prop :=
  (∀ (f : Frame) (s : State), 1 ≤ s.power.index.toNat → s.power.index.toNat ≤ 30 →
      let t := s.throughMotion f
      (frameSlots f < s.power.index.toNat →
          t.ctrl.holds.noSlot = true ∧ t.slot.runPermit = false ∧ t.slot.haltPass = false)
      ∧ (s.power.index.toNat ≤ frameSlots f → slotMarker f s.power.index.toNat = false →
          t.ctrl.holds.noSlot = false
            ∧ t.slot.runPermit = (slotCommand f s.power.index.toNat).getLsbD 0
            ∧ t.slot.haltPass = (slotCommand f s.power.index.toNat).getLsbD 2)
      ∧ (s.power.index.toNat ≤ frameSlots f → slotMarker f s.power.index.toNat = true → s.DriveLaw →
          t.ctrl.node = .standby true ∧ t.ctrl.trip = none ∧ t.demand.d = 0 ∧ t.demand.c = 0
            ∧ DriveState.energizes t.drive.st = false ∧ t.drive.st ≠ .faulted
            ∧ hasEvent t.events.flags .strap = true ∧ t.slot.runPermit = false))
  ∧ (∀ (f : Frame) (s : State), s.power.index.toNat = 0 ∨ s.power.index.toNat = 31 →
      s.ownsSlot f = false
        ∧ (s.throughMotion f).slot.runPermit = false ∧ (s.throughMotion f).slot.haltPass = false
        ∧ hasEvent (s.throughMotion f).events.flags .strap = true
        ∧ hasEvent (s.processFrame f).1.events.flags .strap = true
        ∧ (s.ctrl.node = .standby true → (s.throughMotion f).ctrl.node = .standby true
            ∧ (s.processFrame f).1.ctrl.node = .standby true ∧ (s.processFrame f).1.ctrl.trip = s.ctrl.trip))
  ∧ (∀ (f : Frame) (s : State), s.ctrl.node = .standby false → 1 ≤ s.power.index.toNat → s.power.index.toNat ≤ 30 →
      (s.power.index.toNat ≤ frameSlots f → slotMarker f s.power.index.toNat = false) →
      (s.throughMotion f).ctrl.node ≠ .standby false ∧ (s.throughMotion f).ctrl.node ≠ .standby true)
  ∧ (∀ (f : Frame) (s : State),
      let u := (((s.takeOutbound f).stageSwap f).stageLocate f).stageCommand f (s.ownsSlot f)
      let t := s.throughMotion f
      t = u.stageMotion f ∧ t.ctrl.machineRun = frameMachineRun f
        ∧ ((u.ctrl.node = .idle ∨ u.ctrl.node = .run ∨ u.ctrl.node = .hold ∨ u.ctrl.node = .standby false) →
            u.handActive = false → u.safeActive = true → u.tripRequests f = [] → t.ctrl.node = t.tableState))

/-! ## Node states and trips -/

/-- R48, R51, R52, R53, R132: how a trip request is taken, by the node state, with HAND inactive, and the stop of the drive that
a trip brings. -/
def Obligations.TripRequestIsTaken : Prop :=
  ∀ (cause : TripCause) (s : State),
    (∀ strap, s.ctrl.node = .standby strap → s.tripRequest cause = s)
    ∧ (s.handActive = false → (s.ctrl.node = .idle ∨ s.ctrl.node = .run ∨ s.ctrl.node = .hold) →
        (s.tripRequest cause).ctrl = { s.ctrl with
            node := .tripped, trip := some { cause := cause, seq := s.line.lastOut, extra := 0 } }
        ∧ DriveState.energizes (s.tripRequest cause).drive.st = false
        ∧ DriveBlock.StoppedTo s.drive (s.tripRequest cause).drive s.params.stopTime
        ∧ (s.ctrl.node = .run → (s.tripRequest cause).demand.d = 0 ∧ (s.tripRequest cause).demand.c = 0))
    ∧ (∀ r, s.ctrl.node = .tripped → s.ctrl.trip = some r → s.tripRequest cause =
        s.withCtrl { s.ctrl with trip := some { r with extra := min 255 (r.extra + 1) } })
    ∧ (s.ctrl.node = .manual → cause ≠ .stall → cause ≠ .driveFault → s.tripRequest cause = s)
    ∧ (s.ctrl.node = .manual → (cause = .stall ∨ cause = .driveFault) → s.ctrl.trip = none → s.tripRequest cause =
        s.withCtrl { s.ctrl with trip := some { cause := cause, seq := s.line.lastOut, extra := 0 } })
    ∧ (∀ r, s.ctrl.node = .manual → (cause = .stall ∨ cause = .driveFault) → s.ctrl.trip = some r →
        s.tripRequest cause = s.withCtrl { s.ctrl with trip := some { r with extra := min 255 (r.extra + 1) } })

/-- R57 to R60: the DRIVE_RESET flag of an owned slot: accepted or refused in TRIPPED, ignored elsewhere. As a command
of its own it acts as in stage 3 (log 8). -/
def Obligations.DriveResetIsJudged : Prop :=
  ∀ (s : State), s.released = true → s.line.waitingReset = none → 1 ≤ s.power.index.toNat →
    s.power.index.toNat ≤ 30 →
    (s.ctrl.node = .tripped → s.DriveResetAccepted → ∃ t, exec .driveReset s = .next t
        ∧ t.ctrl = { s.ctrl with node := s.tableState, trip := none, driveResult := .done }
        ∧ t.wheel = { s.wheel with counter := 0, armed := false, period := 0, frozen := false }
        ∧ (s.tableState ≠ .manual → t.drive.st = .off)
        ∧ State.SameOutside [.ctrl, .demand, .wheel, .drive, .events] s t ∧ State.OnlyRaises s t)
    ∧ (s.ctrl.node = .tripped → ¬s.DriveResetAccepted →
        exec .driveReset s = .next (s.withCtrl { s.ctrl with driveResult := .refused }))
    ∧ (s.ctrl.node ≠ .tripped → exec .driveReset s = .next s)

/-- R184, R112, R80: the clear set of an owned slot clears the named flags, ends a freeze when it names STALL (rank 5)
and empties the sticky set when it names CONDITION (rank 12), and changes nothing else. As a command of its own it
acts as in stage 3 (log 8). -/
def Obligations.ClearSetClearsNamedFlags : Prop :=
  ∀ (named : Word16) (s : State), s.released = true → s.line.waitingReset = none → 1 ≤ s.power.index.toNat →
    s.power.index.toNat ≤ 30 →
    exec (.clearSet named) s = .next
      (((s.withEvents { s.events with flags := s.events.flags &&& ~~~named }).withWheel
          (if named.getLsbD 4 = true ∧ s.wheel.frozen = true then
            { s.wheel with counter := 0, armed := false, period := 0, frozen := false } else s.wheel)).withDemand
        (if named.getLsbD 11 = true then { s.demand with sticky := Conditions.none } else s.demand))

/-- R183: the top event is NONE exactly when no enabled event is pending; else it is a pending enabled event, and none
pending and enabled is of higher priority, or of equal priority and lower rank. Status byte 14 carries it as chosen from
the sets that stage 4 left. -/
def Obligations.TopEventLaw : Prop :=
  (∀ (x : EventBlock),
    (topEvent x = 0 ↔ ∀ e, hasEvent x.flags e = true → hasEvent x.enable e = false)
    ∧ (topEvent x ≠ 0 → ∃ e, Event.rank e = topEvent x ∧ hasEvent x.flags e = true ∧ hasEvent x.enable e = true
        ∧ ∀ e', hasEvent x.flags e' = true → hasEvent x.enable e' = true →
            (hasEvent x.high e' = true → hasEvent x.high e = true)
              ∧ (hasEvent x.high e' = hasEvent x.high e → Event.rank e ≤ Event.rank e')))
  ∧ ∀ (f : Frame) (s : State), FrameSized f → s.ownsSlot f = true →
      (byteAt (s.processFrame f).2 (slotAt s.indexNat + 14)).toNat = topEvent (s.throughMotion f).events

/-! ## The motion computation and the joint -/

/-- R70, R71: the effective rate and the feedforward speed. -/
def Obligations.RateAndFeedforward : Prop :=
  (∀ omega ceiling own : Nat,
      effectiveRate omega ceiling own true = 0
        ∧ effectiveRate omega ceiling own false = omega * min ceiling own / 1000
        ∧ (ceiling ≤ 1000 → effectiveRate omega ceiling own false ≤ omega)
        ∧ (omega ≤ 6000 → ceiling ≤ 1000 → effectiveRate omega ceiling own false ≤ 6000
            ∧ omega * min ceiling own ≤ 6000000))
    ∧ ∀ omega radius : Nat,
      linearSpeed omega radius = (omega * radius * 29089 + 50000000) / 100000000
        ∧ (omega ≤ 6000 → radius ≤ 9999 → linearSpeed omega radius ≤ 17452
            ∧ omega * radius * 29089 + 50000000 < 2 ^ 48)
        ∧ linearSpeed 0 radius = 0

/-- R64, R72 to R75, R77, R78: steps 3 to 6 with a valid profile, from the effective rate, the direction sign and the angle;
and the bounds of the steps within the ranges of R141: OVER and UNDER exclude each other, UNDER needs a rate above 0, the candidate
is at most 1000, and the cap lies between 2 and 1000. Stage 4 settles c and d from those
steps, made on the profile, the latched values, the frame's rate and direction, the node's own limit and the joint angle it
reports. That d is the candidate in the frame that begins a change of direction with STOP_TIME 0, whose flag is clear again
at the settling, is read from R122, R133 and R134 (log 14). -/
def Obligations.MotionStepsFollowFormulas : Prop :=
  (∀ (p : Params) (role : Role) (omega ceiling own : Nat) (chainOpen : Bool) (s theta : Int),
      p.radius ≠ 0 → p.vmax ≠ 0 →
      let m := motionSteps p role omega ceiling own chainOpen s theta
      let w := effectiveRate omega ceiling own chainOpen
      let e := s * theta
      let e' := if e.natAbs ≤ p.deadband then 0 else if 0 < e then e - p.deadband else e + p.deadband
      let raw := (e' * p.gain).tdiv 100
      let limit : Int := (p.vmax * p.reserve / 1000 : Nat)
      let dv := if role = .endNode ∨ w = 0 then 0 else if limit < raw then limit else if raw < -limit then -limit else raw
      let v := (linearSpeed w p.radius : Int) + dv
      let vcmd := linearSpeed omega p.radius
      m.overSpeed = decide ((p.vmax : Int) < v) ∧ m.underSpeed = decide (v < 0) ∧ m.nocap = decide (vcmd = 0)
        ∧ ((p.vmax : Int) < v → m.candidate = 1000)
        ∧ (v < 0 → m.candidate = 0)
        ∧ (0 ≤ v → v ≤ p.vmax → m.candidate = (v.toNat * 1000 + p.vmax / 2) / p.vmax)
        ∧ m.contribution = min (if vcmd = 0 then 1000 else min 1000 (p.vmax * (1000 - p.reserve) / vcmd)) own)
  ∧ (∀ (p : Params) (role : Role) (omega ceiling own : Nat) (chainOpen : Bool) (s theta : Int),
      Params.InRange p → omega ≤ 6000 →
      let m := motionSteps p role omega ceiling own chainOpen s theta
      m.candidate ≤ 1000 ∧ m.contribution ≤ 1000 ∧ m.contribution ≤ own ∧ (m.overSpeed && m.underSpeed) = false
        ∧ (effectiveRate omega ceiling own chainOpen = 0 → m.underSpeed = false)
        ∧ (p.vmax ≠ 0 → 2 ≤ capabilityCap p (linearSpeed omega p.radius)
            ∧ capabilityCap p (linearSpeed omega p.radius) ≤ 1000))
  ∧ (∀ (f : Frame) (s : State),
      let t := s.stageMotion f
      t.demand.c = (if t.ctrl.node = .run then (s.stageResult f).contribution else 0)
        ∧ t.demand.d = (if t.ctrl.node = .run ∧ t.drive.dirChange = false then (s.stageResult f).candidate else 0)
        ∧ (s.power.role = .endNode → t.demand.theta = 0)
        ∧ (∀ r, s.power.role = .mid → s.joint.valid = true → s.joint.reading = some r →
            t.demand.theta = jointAngle s.params r)
        ∧ (s.power.role = .mid → s.joint.valid = false → t.demand.theta = s.joint.lastTheta))

/-- R66, R67, R111, R143, R145: what a sector entry covers; the lookup as the first entry that covers the angle; the lookup
stage 4 makes for a valid angle and holds otherwise; the sector factor by the action and HALT_PASS; the tower's own limit as
the smallest of sector factor, stall limit and drag factor. -/
def Obligations.SectorLimitsTower : Prop :=
  (∀ (e : Sector) (angle : Nat), angle < 36000 →
      (e.start < e.stop → (Sector.covers e angle = true ↔ e.start ≤ angle ∧ angle < e.stop))
      ∧ (e.stop < e.start → (Sector.covers e angle = true ↔ e.start ≤ angle ∨ angle < e.stop)))
  ∧ (∀ (es : List Sector) (angle : Nat),
      (lookupIn es angle = none ↔ ∀ e ∈ es, Sector.covers e angle = false)
      ∧ ∀ h, lookupIn es angle = some h ↔ es[h.index]? = some h.entry ∧ Sector.covers h.entry angle = true
          ∧ ∀ j e, j < h.index → es[j]? = some e → Sector.covers e angle = false)
  ∧ (∀ (f : Frame) (s : State),
      (framePivot f < 36000 → (s.stageMotion f).table = { s.table with
        lookup := lookupIn s.activeBank.entries (framePivot f), lastAngle := some (framePivot f) })
      ∧ (36000 ≤ framePivot f → (s.stageMotion f).table = s.table))
  ∧ (∀ (s : State),
      (s.table.lookup = none → s.sectorFactor = 1000)
      ∧ (∀ h, s.table.lookup = some h → (h.entry.action ≠ .halt ∨ s.slot.haltPass = true) →
          s.sectorFactor = h.entry.factor)
      ∧ (∀ h, s.table.lookup = some h → h.entry.action = .halt → s.slot.haltPass = false → s.sectorFactor = 0)
      ∧ s.ownLimit = min s.sectorFactor (min
          (if hasEvent s.events.flags .stall = true ∧ s.ctrl.node ≠ .tripped then 0 else 1000) s.wheel.drag))

/-- R44 to R46, R48, R54, R79 to R82, R84, R87, R132: the conditions that stage 4 leaves in the cause set, the sticky set and the events, and the trip
requests of one computation: the first in the order of R54 creates the record of a serving node and each later one counts;
in TRIPPED all count; in LOCAL and STANDBY none is taken. And the node state that the two evaluations give: the state of the
table with no request, a SAFE trip with SAFE inactive, LOCAL with HAND active (also with SAFE inactive at the way out of
STANDBY, read from R45, R46 and R55: log 13). A RUN node that stage 4 takes out of RUN, by the machine mode, the command record
or a trip, has its drive stopped. That OVER, UNDER and their requests take the own limit as it stands after the
first evaluation is the model's choice (log 32). -/
def Obligations.ConditionsTripInOrder : Prop :=
  (∀ (f : Frame), headerFieldBad f = decide (6000 < frameRate f ∨ 36000 ≤ framePivot f ∨ 1000 < frameCeiling f))
  ∧ ∀ (f : Frame) (s : State),
    let a := s.beginMotion f
    let t := s.stageMotion f
    let m := s.stageResult f
    let held := decide (s.power.role = .mid ∧ (s.joint.valid = false ∨ s.joint.reading = none))
    t.demand.causes = { t.demand.causes with
        joint := held, overSpeed := m.overSpeed, underSpeed := m.underSpeed, nocap := m.nocap, field := headerFieldBad f }
      ∧ t.demand.sticky = { t.demand.sticky with
          joint := s.demand.sticky.joint || held
          overSpeed := s.demand.sticky.overSpeed || m.overSpeed
          underSpeed := s.demand.sticky.underSpeed || m.underSpeed
          nocap := s.demand.sticky.nocap || m.nocap
          field := s.demand.sticky.field || headerFieldBad f }
      ∧ (t.demand.causes.short = true → t.demand.sticky.short = true)
      ∧ (Conditions.code t.demand.causes ≠ 0#8 → hasEvent t.events.flags .condition = true)
      ∧ ((a.ctrl.node = .idle ∨ a.ctrl.node = .run ∨ a.ctrl.node = .hold) → s.handActive = false →
          (s.tripRequests f = [] → t.ctrl.trip = a.ctrl.trip ∧ t.ctrl.node ≠ .tripped)
          ∧ (∀ cause rest, s.tripRequests f = cause :: rest → t.ctrl.node = .tripped
              ∧ t.ctrl.trip = some { cause := cause, seq := s.line.lastOut, extra := rest.length }))
      ∧ (∀ r, a.ctrl.node = .tripped → a.ctrl.trip = some r → r.extra ≤ 255 →
          t.ctrl.trip = some { r with extra := min 255 (r.extra + (s.tripRequests f).length) })
      ∧ (a.ctrl.node = .manual ∨ a.ctrl.node = .standby true → t.ctrl.trip = a.ctrl.trip)
      ∧ ((s.ctrl.node = .idle ∨ s.ctrl.node = .run ∨ s.ctrl.node = .hold ∨ s.ctrl.node = .standby false) →
          s.handActive = false →
          (s.safeActive = true → s.tripRequests f = [] →
            t.ctrl.node = (s.withCtrl { s.ctrl with machineRun := frameMachineRun f }).tableState)
          ∧ (s.safeActive = false → t.ctrl.node = .tripped ∧ hasEvent t.events.flags .safety = true
              ∧ t.ctrl.trip = some { cause := .safe, seq := s.line.lastOut, extra := (s.tripRequests f).length }))
      ∧ (s.ctrl.node = .run → s.handActive = false → t.ctrl.node ≠ .run → t.demand.d = 0 ∧ t.demand.c = 0
          ∧ DriveBlock.StoppedTo { s.drive with dirRecord := frameDirection f } t.drive s.params.stopTime)
      ∧ (s.ctrl.node = .tripped → s.handActive = false → t.ctrl.node = .tripped)
      ∧ (s.ctrl.node = .standby true → t.ctrl.node = .standby true)
      ∧ (s.ctrl.node ≠ .standby true → s.handActive = true → t.ctrl.node = .manual)

/-- R93, R114: the angle of a joint reading, its edges and its range for a valid reading; the measured speed of a tooth
period. -/
def Obligations.SensorFormulas : Prop :=
  (∀ (p : Params) (r : Reading),
      jointAngle p r = (((r.duty : Int) - 5000) * p.jointSpan).tdiv 4500 + p.jointOffset
        ∧ (r.duty = 5000 → jointAngle p r = p.jointOffset)
        ∧ (r.duty = 500 → jointAngle p r = p.jointOffset - p.jointSpan)
        ∧ (r.duty = 9500 → jointAngle p r = p.jointOffset + p.jointSpan)
        ∧ (Params.InRange p → readingValid p r = true → -3300 ≤ jointAngle p r ∧ jointAngle p r ≤ 3300))
  ∧ (∀ (p : Params) (period : Nat) (frozen : Bool),
      (1 ≤ period → period ≤ 65534 → frozen = false →
          measuredSpeed p period frozen = p.circumference * 60000 / (p.teeth * period))
      ∧ (period = 0 ∨ 65535 ≤ period ∨ frozen = true → measuredSpeed p period frozen = 0)
      ∧ (Params.InRange p → measuredSpeed p period frozen ≤ 74992500))

/-- R90, R91, R92: the edges on JOINT at a MID node: a rising edge in UNARMED, a falling edge in MEASURING, and the
rising edge that completes a reading. The sample counts as operands are the model's (log 17); an edge that cannot
arise changes nothing (log 2). -/
def Obligations.JointEdgesMeasure : Prop :=
  ∀ (s : State), s.released = true → s.power.role = .mid →
    (s.joint.measurement = .unarmed → exec .jointMeasurementStart s =
        .next (s.withJoint { s.joint with measurement := .measuring 0 0 true }))
    ∧ (∀ n, s.joint.measurement = .unarmed → exec (.jointFallingEdge n) s = .next s)
    ∧ (∀ p h n, s.joint.measurement = .measuring p h true → exec (.jointFallingEdge n) s =
        .next (s.withJoint { s.joint with measurement := .measuring (min 65535 (p + n)) (min 65535 (h + n)) false }))
    ∧ (∀ p h n, s.joint.measurement = .measuring p h false →
        let period := min 65535 (p + n)
        let duty := h * 10000 / period
        exec (.jointReadingComplete n) s = .next (s.withJoint { s.joint with
          measurement := .measuring 0 0 true
          reading := some { period := period, high := h, duty := duty }
          fresh := true
          valid := decide (s.params.jointPeriodMin ≤ period ∧ period ≤ s.params.jointPeriodMax ∧ 500 ≤ duty
            ∧ duty ≤ 9500) }))

/-- R68, R95, R96, R97, R103: what a computation takes from Joint Capture. -/
def Obligations.JointAngleIsTaken : Prop :=
  ∀ (s : State),
    (s.power.role = .endNode → s.takeJoint = s.withDemand { s.demand with theta := 0 } ∧ s.captureRequest = none)
    ∧ (s.power.role = .mid → s.joint.valid = true → ∀ r, s.joint.reading = some r →
        let theta := jointAngle s.params r
        s.takeJoint.joint = { s.joint with fresh := false, valid := false, lastTheta := theta, holdCount := 0 }
          ∧ s.takeJoint.demand = { s.demand with theta := theta }
          ∧ hasEvent s.takeJoint.events.flags .alignWarn =
              (hasEvent s.events.flags .alignWarn
                || decide (s.params.warnLimit ≤ theta.natAbs ∨ s.params.safetyLimit ≤ theta.natAbs))
          ∧ hasEvent s.takeJoint.events.flags .alignTrip =
              (hasEvent s.events.flags .alignTrip || decide (s.params.safetyLimit ≤ theta.natAbs))
          ∧ s.captureRequest = if s.params.safetyLimit ≤ theta.natAbs then some .align else none)
    ∧ (s.power.role = .mid → s.joint.valid = false →
        let count := min s.params.holdLimit (s.joint.holdCount + 1)
        s.takeJoint.joint = { s.joint with fresh := false, valid := false, holdCount := count }
          ∧ s.takeJoint.demand.theta = s.joint.lastTheta
          ∧ s.takeJoint.demand.causes.joint = true ∧ s.takeJoint.demand.sticky.joint = true
          ∧ hasEvent s.takeJoint.events.flags .condition = true
          ∧ (count = s.params.holdLimit → hasEvent s.takeJoint.events.flags .sensorLost = true)
          ∧ s.captureRequest = if count = s.params.holdLimit then some .sensorLost else none)
    ∧ State.SameOutside [.demand, .joint, .events] s s.takeJoint ∧ State.OnlyRaises s s.takeJoint

/-- R54, R97, R98: a computation of a RUN node whose valid angle reaches SAFETY_LIMIT trips it with first cause ALIGN at
the sequence of the last outbound frame, with d and c at 0. -/
def Obligations.AlignmentTripStopsNode : Prop :=
  ∀ (f : Frame) (s : State) (r : Reading), s.ctrl.node = .run → s.handActive = false → s.safeActive = true →
    s.slot.runPermit = true → frameMachineRun f = true → s.params.radius ≠ 0 → s.params.vmax ≠ 0 →
    s.ctrl.holds = { linkLost := false, returnLost := false, chain := false, noSlot := false } →
    s.power.role = .mid → s.joint.valid = true → s.joint.reading = some r →
    s.params.safetyLimit ≤ (jointAngle s.params r).natAbs →
    (s.stageMotion f).ctrl.node = .tripped
      ∧ (∃ extra, (s.stageMotion f).ctrl.trip = some { cause := .align, seq := s.line.lastOut, extra := extra })
      ∧ (s.stageMotion f).demand.d = 0 ∧ (s.stageMotion f).demand.c = 0
      ∧ (s.stageMotion f).demand.theta = jointAngle s.params r
      ∧ DriveState.energizes (s.stageMotion f).drive.st = false
      ∧ hasEvent (s.stageMotion f).events.flags .alignTrip = true

/-! ## The wheel -/

/-- R107, R116: a tooth by the flags it finds, with the drag evaluation of the tooth that closes an interval. That the
level and last sample become high is the model's (log 21). -/
def Obligations.ToothClosesInterval : Prop :=
  ∀ (s : State), s.released = true →
    let high : State := s.withWheel { s.wheel with level := some .high, lastSample := some .high }
    (s.wheel.frozen = true → exec .wheelTooth s = .next high)
    ∧ (s.wheel.frozen = false → s.wheel.armed = false →
        exec .wheelTooth s = .next (high.withWheel { high.wheel with armed := true, counter := 0 }))
    ∧ (s.wheel.frozen = false → s.wheel.armed = true → s.wheel.counter = 0 → exec .wheelTooth s = .next high)
    ∧ (s.wheel.frozen = false → s.wheel.armed = true → s.wheel.counter ≠ 0 →
        let speed := measuredSpeed s.params s.wheel.counter false
        let expected := if s.params.driveMode = .duty then s.params.vmax else s.params.vmax * s.drive.rateRef / 1000
        let ratio := min 1000 (1000 * speed / expected)
        let evaluated := s.wheel.counter ≤ 65534 ∧ s.drive.st = .running ∧ 0 < expected
        let closed : State := high.withWheel { high.wheel with period := s.wheel.counter, counter := 0 }
        (¬evaluated → exec .wheelTooth s = .next closed)
        ∧ (evaluated → s.params.dragThreshold ≤ ratio →
            exec .wheelTooth s = .next (closed.withWheel { closed.wheel with drag := 1000 }))
        ∧ (evaluated → ratio < s.params.dragThreshold →
            exec .wheelTooth s = .next ((closed.withWheel { closed.wheel with drag := ratio }).raise .drag)))

/-- R109, R110, R137: the stall test: nothing while frozen or below the threshold; else the freeze, event STALL, a
trip when enabled, and the end of a jog with the lockout set. As a command of its own it is the stall test (log 22).
-/
def Obligations.StallFreezesAndTrips : Prop :=
  ∀ (s : State), s.released = true →
    let threshold := if s.inSector .watch = true then s.params.stallTicks / 2 else s.params.stallTicks
    (s.wheel.frozen = true ∨ s.wheel.counter < threshold → exec .stall s = .next s)
    ∧ (s.wheel.frozen = false → threshold ≤ s.wheel.counter → ∃ t, exec .stall s = .next t
        ∧ t.wheel = { s.wheel with frozen := true } ∧ hasEvent t.events.flags .stall = true
        ∧ (s.params.tripEnables.stall = true → (s.ctrl.node = .idle ∨ s.ctrl.node = .run ∨ s.ctrl.node = .hold) →
            s.handActive = false →
            t.ctrl = { s.ctrl with node := .tripped, trip := some { cause := .stall, seq := s.line.lastOut, extra := 0 } }
              ∧ DriveState.energizes t.drive.st = false ∧ DriveBlock.StoppedTo s.drive t.drive s.params.stopTime)
        ∧ (s.params.tripEnables.stall = false → t.ctrl = s.ctrl
            ∧ (s.ctrl.node ≠ .manual → t.drive = s.drive ∧ t.demand = s.demand))
        ∧ (s.ctrl.node = .manual → s.drive.jog = true → DriveState.energizes s.drive.st = true →
            DriveState.energizes t.drive.st = false ∧ t.drive.lockout = true)
        ∧ State.SameOutside [.ctrl, .demand, .wheel, .drive, .events] s t ∧ State.OnlyRaises s t)

/-- R105, R106, R109, R192: one 1 ms tick: the pin sampled and qualified, the counter advanced while energized, the
tooth, the stall test; the running timers and the reference count with it (log 4). The rate pulse and the count modulo
20 are the model's (logs 25, 26), and so is the order within the tick: the timers and the RATE_REF period before the tooth
and the stall test (log 35). -/
def Obligations.TickCountsEnergizedTime : Prop :=
  ∀ (sample : Level) (s : State), s.released = true →
    let energized := (s.drive.st = .starting ∨ s.drive.st = .running)
      ∧ (s.params.driveMode = .duty ∨ 0 < s.drive.rateRef)
    let ticked (x : Option Timer) : Option Timer := x.map fun y => { y with left := y.left - 1 }
    let qualified := if s.wheel.lastSample = some sample then some sample else s.wheel.level
    let counted := if energized then min 65535 (s.wheel.counter + 1) else s.wheel.counter
    let tooth := s.wheel.level = some .low ∧ s.wheel.lastSample = some .high ∧ sample = .high
    let threshold := if s.inSector .watch = true then s.params.stallTicks / 2 else s.params.stallTicks
    let u : State := ((((s.withPower { s.power with refTick := (s.power.refTick + 1) % 20, sampleDue := everySampleDue }).withLine
      { s.line with frameTimer := ticked s.line.frameTimer }).withDrive
        { s.drive with period := ticked s.drive.period, phase := ticked s.drive.phase,
                       rateOut := s.drive.rateRef }).withLamp
          { s.lamp with stepTimer := ticked s.lamp.stepTimer }).withWheel
            { s.wheel with level := qualified, lastSample := some sample, counter := counted }
    (tooth → exec (.wheelTick sample) s = .next u.takeTooth.stallTest)
    ∧ (¬tooth → s.wheel.frozen = false → threshold ≤ counted → exec (.wheelTick sample) s = .next u.raiseStall)
    ∧ (¬tooth → (s.wheel.frozen = true ∨ counted < threshold) → exec (.wheelTick sample) s = .next u)

/-! ## The inputs -/

/-- R175, R176, R177, R179: one sample of an input at its sample clock, SLOW at every twentieth tick, FAST and NONE at each: the run
counted to 3, and the filtered level taken by a run of three, or at once under NONE when established. Away from the clock
nothing is sampled. A level so taken reaches its reader at once: by the hand-over when the reading changes, and as the
command INPUT_CHANGE when the run is three. That a NONE input keeps its run is read from R176 (log 30); the note of the samples due at a tick is the
model's (log 26). -/
def Obligations.SampleRunTakesLevel : Prop :=
  ∀ (i : InputName) (level : Level) (s : State), s.released = true →
    let x := PerInput.get s.inputs i
    let filter := PerInput.get s.params.inputFilter i
    let clock := PerInput.get s.power.sampleDue i = true ∧ (filter = .slow → s.power.refTick = 0)
    let count := match x.samples with
      | none => 1
      | some r => if r.level = level then min 3 (r.count + 1) else 1
    let run : Option SampleRun := some { level := level, count := count }
    let takes := x.pin ≠ some level ∧ (count = 3 ∨ (filter = .unfiltered ∧ x.pin ≠ none))
    let u : State := s.withPower { s.power with sampleDue := PerInput.put s.power.sampleDue i false }
    let v : State := u.withInput i { pin := some level, samples := run }
    (¬clock → exec (.inputSample i level) s = .next s)
    ∧ (clock → ¬takes → exec (.inputSample i level) s = .next (u.withInput i { x with samples := run }))
    ∧ (clock → takes → ∃ t, exec (.inputSample i level) s = .next t
        ∧ t.inputs = PerInput.put s.inputs i { pin := some level, samples := run } ∧ t.power = u.power
        ∧ (t.inputActive i = s.inputActive i → t = u.withInput i { pin := some level, samples := run })
        ∧ State.SameOutside [.power, .inputs, .ctrl, .demand, .drive, .events] s t ∧ State.OnlyRaises s t)
    ∧ (clock → takes → count = 3 → exec (.inputSample i level) s = exec (.inputChange i level) u)
    ∧ (clock → takes → i = .aux → x.pin = none → exec (.inputSample i level) s = .next v)
    ∧ (clock → takes → (i ≠ .aux ∨ x.pin ≠ none) → v.inputActive i ≠ s.inputActive i →
        exec (.inputSample i level) s = .next (v.handOver i (v.inputActive i)))

/-- R48, R52, R55, R61, R63, R125, R130, R132, R136, R137, R177, R179: a change of an input acts at once on the block that reads
it: SAFE and HAND on the node state and, with a RUN node or a jog, on the drive, which stops, or begins a jog that waits in LOCAL; the jog inputs on a jog and its lockout, DRDY on STARTING and RUNNING, AUX on its event. A change
that leaves the reading as it was acts on none, and a level the filter already holds is no change. The run set to the new
level and a count of 3 is the model's (log 20). -/
def Obligations.InputChangeReachesReader : Prop :=
  (∀ (i : InputName) (level : Level) (s : State), (PerInput.get s.inputs i).pin = some level →
      exec (.inputChange i level) s = .next s)
  ∧ ∀ (i : InputName) (level : Level) (s : State), s.released = true → (PerInput.get s.inputs i).pin ≠ some level →
    let active := decide (level = if PerInput.get s.params.inputPolarity i then Level.low else Level.high)
    let u : State := s.withInput i { pin := some level, samples := some { level := level, count := 3 } }
    ∃ t, exec (.inputChange i level) s = .next t ∧ t.inputs = u.inputs
      ∧ State.SameOutside [.inputs, .ctrl, .demand, .drive, .events] s t ∧ State.OnlyRaises s t
      ∧ (active = s.inputActive i → t = u)
      ∧ (active ≠ s.inputActive i → (i ≠ .aux ∨ (PerInput.get s.inputs i).pin ≠ none) → t = u.handOver i active)
      ∧ (i = .aux → active ≠ s.inputActive i → (PerInput.get s.inputs i).pin ≠ none →
          t = if s.params.auxEdge = .both ∨ (s.params.auxEdge = .rising ∧ active = true)
              ∨ (s.params.auxEdge = .falling ∧ active = false) then u.raise .aux else u)
      ∧ (i = .aux → (PerInput.get s.inputs i).pin = none → t = u)
      ∧ (i = .safe → active = false → s.safeActive = true → s.handActive = false →
          (s.ctrl.node = .idle ∨ s.ctrl.node = .run ∨ s.ctrl.node = .hold) →
          t.ctrl = { s.ctrl with node := .tripped, trip := some { cause := .safe, seq := s.line.lastOut, extra := 0 } }
            ∧ hasEvent t.events.flags .safety = true ∧ DriveState.energizes t.drive.st = false
            ∧ DriveBlock.StoppedTo s.drive t.drive s.params.stopTime)
      ∧ (i = .safe → active = false → s.safeActive = true → s.ctrl.node = .manual → t = u.raise .safety)
      ∧ (∀ r, i = .safe → active = false → s.safeActive = true → s.ctrl.node = .tripped → s.ctrl.trip = some r →
          t = (u.raise .safety).withCtrl { s.ctrl with trip := some { r with extra := min 255 (r.extra + 1) } })
      ∧ (i = .hand → active = true → s.handActive = false →
          (s.ctrl.node = .idle ∨ s.ctrl.node = .run ∨ s.ctrl.node = .hold ∨ s.ctrl.node = .tripped) →
          t.ctrl = { s.ctrl with node := .manual } ∧ hasEvent t.events.flags .handEntry = true
            ∧ t.drive.lockout = false ∧ (s.ctrl.node = .run → t.demand.d = 0 ∧ t.demand.c = 0)
            ∧ (s.ctrl.node = .run → (u.jogSelection = none ∨ s.drive.st = .stopping ∨ s.drive.st = .faulted
                  ∨ ((s.drive.st = .starting ∨ s.drive.st = .running) ∧ s.params.stopTime ≠ 0)) →
                DriveBlock.StoppedTo { s.drive with lockout := false } t.drive s.params.stopTime)
            ∧ (s.ctrl.node ≠ .run → (u.jogSelection = none ∨ s.drive.st ≠ .off) →
                t.drive = { s.drive with lockout := false })
            ∧ (∀ dir, u.jogSelection = some dir → (s.drive.st = .off ∨ (s.ctrl.node = .run ∧ (s.drive.st = .resting
                  ∨ ((s.drive.st = .starting ∨ s.drive.st = .running) ∧ s.params.stopTime = 0)))) →
                t.drive.dir = dir ∧ t.drive.jog = true ∧ t.drive.period = none
                  ∧ (s.drdyActive = false → t.drive.st = .starting ∧ t.drive.rateRef = 0)
                  ∧ (s.drdyActive = true → t.drive.st = .running ∧ t.drive.phase = none)))
      ∧ (∀ r, i = .hand → active = false → s.handActive = true → s.ctrl.node = .manual → s.ctrl.trip = some r →
          t.ctrl = { s.ctrl with node := .tripped } ∧ DriveState.energizes t.drive.st = false
            ∧ DriveBlock.StoppedTo s.drive t.drive s.params.stopTime)
      ∧ (i = .hand → active = false → s.handActive = true → s.ctrl.node = .manual → s.ctrl.trip = none →
          s.safeActive = true → t.ctrl = { s.ctrl with node := u.tableState }
            ∧ (s.demand.d = 0 ∨ u.tableState ≠ .run ∨ s.params.stopTime ≠ 0 →
                DriveBlock.StoppedTo s.drive t.drive s.params.stopTime))
      ∧ (i = .hand → active = false → s.handActive = true → s.ctrl.node = .manual → s.ctrl.trip = none →
          s.safeActive = false →
          t.ctrl = { s.ctrl with node := .tripped, trip := some { cause := .safe, seq := s.line.lastOut, extra := 0 } }
            ∧ hasEvent t.events.flags .safety = true
            ∧ (s.demand.d = 0 → DriveBlock.StoppedTo s.drive t.drive s.params.stopTime))
      ∧ (∀ dir, (i = .jogF ∨ i = .jogR) → active ≠ s.inputActive i → s.ctrl.node = .manual → s.drive.st = .off →
          (s.drive.lockout = false ∨ active = true) → u.jogSelection = some dir →
          State.SameOutside [.inputs, .drive] s t ∧ t.drive.dir = dir ∧ t.drive.jog = true ∧ t.drive.period = none
            ∧ (s.drdyActive = false → t.drive.st = .starting ∧ t.drive.rateRef = 0 ∧ t.drive.phase
                = some { length := 100 * s.params.startTimeout, left := 100 * s.params.startTimeout })
            ∧ (s.drdyActive = true → t.drive.st = .running ∧ t.drive.phase = none
                ∧ t.drive.rateRef = if s.params.driveMode = .rate then s.params.jogDemand else 0))
      ∧ ((i = .jogF ∨ i = .jogR) → active ≠ s.inputActive i → s.ctrl.node = .manual → s.drive.jog = true →
          (s.drive.st = .starting ∨ s.drive.st = .running) → u.jogSelection ≠ some s.drive.dir →
          s.params.stopTime ≠ 0 → t = u.withDrive { s.drive with
            st := .stopping
            rateRef := 0
            period := none
            phase := some { length := 100 * s.params.stopTime, left := 100 * s.params.stopTime } })
      ∧ ((i = .jogF ∨ i = .jogR) → active ≠ s.inputActive i →
          t.drive.lockout = (s.drive.lockout && !(active && decide (s.drive.st = .off))))
      ∧ (i = .drdy → active = true → s.drdyActive = false → s.drive.st = .starting →
          t.drive.st = .running ∧ t.drive.phase = none ∧ t.ctrl = s.ctrl)
      ∧ (i = .drdy → active = false → s.drdyActive = true → s.drive.st = .running →
          t.drive.st = .faulted ∧ t.drive.rateRef = 0 ∧ t.drive.period = none
            ∧ hasEvent t.events.flags .driveFault = true)

/-! ## The drive -/

/-- R125, R126, R131, R51: the start timeout with DRDY inactive faults the drive and requests a DRIVE_FAULT trip; the
on-time end of a DUTY period de-energizes the drive, starts MIN_OFF and enters RESTING, and the period timer runs on.
The commands are the expiries of timers with no time left (log 3). That with MIN_OFF 0 the drive rests all the same, with a
phase timer of length 0, is the model's choice (log 34). -/
def Obligations.StartTimeoutAndOnTimeEnd : Prop :=
  (∀ (s : State), s.released = true →
      (s.drive.st ≠ .starting ∨ s.drdyActive = true → exec .startTimeout s = .next s)
      ∧ (∀ x, s.drive.phase = some x → x.left ≠ 0 → exec .startTimeout s = .next s)
      ∧ (∀ x, s.drive.st = .starting → s.drdyActive = false → s.drive.phase = some x → x.left = 0 → ∃ t, exec .startTimeout s = .next t
          ∧ t.drive.st = .faulted ∧ t.drive.rateRef = 0 ∧ t.drive.period = none ∧ t.drive.phase = none
          ∧ t.drive.dirChange = false ∧ t.drive.jog = false ∧ t.drive.dir = s.drive.dir
          ∧ hasEvent t.events.flags .driveFault = true
          ∧ (s.ctrl.node = .run → s.handActive = false → t.ctrl = { s.ctrl with
              node := .tripped, trip := some { cause := .driveFault, seq := s.line.lastOut, extra := 0 } })
          ∧ (s.ctrl.node = .manual → s.ctrl.trip = none → t.ctrl = { s.ctrl with
              trip := some { cause := .driveFault, seq := s.line.lastOut, extra := 0 } })
          ∧ State.SameOutside [.ctrl, .demand, .drive, .events] s t ∧ State.OnlyRaises s t))
  ∧ (∀ (s : State), s.released = true → (s.drive.st = .starting ∨ s.drive.st = .running) → s.drive.jog = false →
      ∀ x, s.drive.period = some x →
      (100 * s.drive.onTime ≤ x.length - x.left → exec .onTimeEnd s = .next (s.withDrive { s.drive with
        st := .resting
        rateRef := 0
        phase := some { length := 100 * s.params.minOff, left := 100 * s.params.minOff } }))
      ∧ (x.length - x.left < 100 * s.drive.onTime → exec .onTimeEnd s = .next s))

/-- R123, R127: the end of the wait in RESTING: a new period in RUN with d above 0, else RESTING with both timers
stopped. That both timers stop is read from R127 (log 23); the expiry is the command (log 3). -/
def Obligations.RestingEndStartsPeriod : Prop :=
  ∀ (s : State), s.released = true → s.drive.st = .resting →
    (s.drive.period.isSome = true ∨ s.drive.phase.isSome = true) →
    ((∃ x, (s.drive.period = some x ∨ s.drive.phase = some x) ∧ x.left ≠ 0) → exec .restingEnd s = .next s)
    ∧ ((∀ x, s.drive.period = some x ∨ s.drive.phase = some x → x.left = 0) →
    (s.ctrl.node ≠ .run ∨ s.demand.d = 0 →
        exec .restingEnd s = .next (s.withDrive { s.drive with period := none, phase := none }))
    ∧ (s.ctrl.node = .run → 0 < s.demand.d → s.params.driveMode = .duty →
        ∃ t, exec .restingEnd s = .next t ∧ s.DutyStarted t s.drdyActive))

/-- R133, R136: the expiry of STOP_TIME: OFF with the flags cleared, or the start that waits: a DUTY period or a RATE
start in RUN with d above 0, a jog in LOCAL. The command is the expiry of a timer with no time left (log 3). -/
def Obligations.StopTimeEndStartsWaitingDrive : Prop :=
  ∀ (x : Timer) (s : State), s.released = true → s.drive.st = .stopping → s.drive.phase = some x →
    (x.left ≠ 0 → exec .stopTimeEnd s = .next s)
    ∧ (x.left = 0 →
    ((s.ctrl.node ≠ .run ∨ s.demand.d = 0) →
      (s.ctrl.node ≠ .manual ∨ s.drive.lockout = true ∨ s.jogSelection = none) →
        exec .stopTimeEnd s = .next (s.withDrive (DriveBlock.stoppedAt s.drive .off)))
    ∧ (s.ctrl.node = .run → 0 < s.demand.d → s.params.driveMode = .duty →
        ∃ t, exec .stopTimeEnd s = .next t ∧ s.DutyStarted t s.drdyActive ∧ t.drive.dirChange = false ∧ t.drive.jog = false)
    ∧ (s.ctrl.node = .run → 0 < s.demand.d → s.params.driveMode = .rate →
        ∃ t, exec .stopTimeEnd s = .next t ∧ t.drive.dir = s.drive.dirRecord ∧ t.drive.period = none
          ∧ (s.drdyActive = false → t.drive.st = .starting ∧ t.drive.rateRef = 0)
          ∧ (s.drdyActive = true → t.drive.st = .running ∧ t.drive.rateRef = s.demand.d)
          ∧ State.SameOutside [.drive] s t)
    ∧ (∀ dir, s.ctrl.node = .manual → s.drive.lockout = false → s.jogSelection = some dir →
        ∃ t, exec .stopTimeEnd s = .next t ∧ t.drive.dir = dir ∧ t.drive.jog = true ∧ t.drive.period = none
          ∧ (s.drdyActive = false → t.drive.st = .starting ∧ t.drive.rateRef = 0)
          ∧ (s.drdyActive = true → t.drive.st = .running)
          ∧ State.SameOutside [.drive] s t))

/-- R122, R123, R126 to R129, R134: what a handed-over d does to a drive in RUN, the starts it makes among them, and that it
does nothing outside RUN; and the change of direction that a hand-over begins, with d settled at 0 while its flag is set. In
OFF no jog is under way, by the law of RATE_REF and the resting drive that every step keeps. That d is the candidate in the
frame that begins a change with STOP_TIME 0 is read from R122, R133 and R134 (log 14); that a d of 0 with MIN_OFF 0 rests the
drive is the model's choice (log 34). A start made by the hand-over leaves the drive STARTING whatever DRDY reads (R122). -/
def Obligations.HandOverActsOnDrive : Prop :=
  (∀ (s : State),
    (s.ctrl.node ≠ .run → s.actOnDemand = s)
    ∧ (s.ctrl.node = .run → s.params.driveMode = .rate → s.drive.st = .running →
        s.actOnDemand = s.withDrive { s.drive with rateRef := s.demand.d })
    ∧ (s.RestLaw → s.ctrl.node = .run → s.params.driveMode = .rate → s.drive.st = .off → 0 < s.demand.d →
        State.SameOutside [.drive] s s.actOnDemand ∧ s.actOnDemand.drive.dir = s.drive.dirRecord
          ∧ s.actOnDemand.drive.period = none
          ∧ s.actOnDemand.drive.st = .starting ∧ s.actOnDemand.drive.rateRef = 0
          ∧ s.actOnDemand.drive.phase
            = some { length := 100 * s.params.startTimeout, left := 100 * s.params.startTimeout })
    ∧ (s.ctrl.node = .run → s.params.driveMode = .rate → s.drive.st = .starting → s.actOnDemand = s)
    ∧ (s.ctrl.node = .run → s.params.driveMode = .duty → (s.drive.st = .starting ∨ s.drive.st = .running) →
        s.actOnDemand = if s.demand.d = 0 then s.withDrive { s.drive with
            st := .resting
            rateRef := 0
            phase := some { length := 100 * s.params.minOff, left := 100 * s.params.minOff } } else s)
    ∧ (s.ctrl.node = .run → s.params.driveMode = .duty → s.drive.st = .off → 0 < s.demand.d →
        s.DutyStarted s.actOnDemand false)
    ∧ (s.ctrl.node = .run → s.params.driveMode = .duty → s.drive.st = .resting → s.drive.period = none →
        s.drive.phase = none → 0 < s.demand.d → s.DutyStarted s.actOnDemand false)
    ∧ (s.drive.st = .resting → (s.drive.period ≠ none ∨ s.drive.phase ≠ none) → s.actOnDemand = s)
    ∧ (s.demand.d = 0 → (s.drive.st = .off ∨ s.drive.st = .resting) → s.actOnDemand = s)
    ∧ ((s.drive.st = .stopping ∨ s.drive.st = .faulted) → s.actOnDemand = s))
  ∧ ∀ (f : Frame) (candidate : Nat) (s : State),
    let t := s.handDemandOver f candidate
    t.drive.dirRecord = frameDirection f
    ∧ t.demand.d = (if s.ctrl.node = .run ∧ t.drive.dirChange = false then candidate else 0)
    ∧ (s.ctrl.node = .run → frameDirection f ≠ s.drive.dir → s.drive.jog = false → s.drive.dirChange = false →
        s.params.stopTime ≠ 0 → (s.drive.st = .starting ∨ s.drive.st = .running ∨ s.drive.st = .resting) →
        t.demand.d = 0 ∧ t.drive = { s.drive with
          st := .stopping
          rateRef := 0
          period := none
          phase := some { length := 100 * s.params.stopTime, left := 100 * s.params.stopTime }
          dirRecord := frameDirection f
          dirChange := true })
    ∧ (s.ctrl.node = .run → s.drive.st = .stopping → s.drive.jog = false →
        (frameDirection f ≠ s.drive.dir ∨ s.drive.dirChange = true) →
        t.demand.d = 0 ∧ t.drive = { s.drive with dirRecord := frameDirection f, dirChange := true })
    ∧ (s.ctrl.node = .run → frameDirection f = s.drive.dir → s.drive.dirChange = false → t.drive.dirChange = false)
    ∧ (s.ctrl.node ≠ .run → t.drive = { s.drive with dirRecord := frameDirection f })
    ∧ (s.ctrl.node = .run → s.drive.dirChange = false → s.drive.st = .off → 0 < candidate →
        t.drive.dir = frameDirection f
          ∧ (t.drive.st = .starting ∨ (s.params.driveMode = .duty ∧ t.drive.onTime = 0 ∧ t.drive.st = .resting)))

/-! ## The lamp -/

/-- R186, R187: the expiry of the local step timer, and the step of the pattern that drives LAMP, which is off in plain STANDBY.
The command is the expiry of a timer with no time left, and nothing while the timer is stopped (log 3). -/
def Obligations.LampStepsAndShows : Prop :=
  (∀ s : State, s.lamp.stepTimer = none → exec .localStepTimerExpiry s = .next s)
    ∧ (∀ s : State, s.ctrl.node = .standby false → s.lampOn = false)
    ∧ (∀ (x : Timer) (s : State), s.released = true → s.lamp.stepTimer = some x →
      (x.left ≠ 0 → exec .localStepTimerExpiry s = .next s)
      ∧ (x.left = 0 → exec .localStepTimerExpiry s = .next (s.withLamp
        { stepCount := if s.ctrl.holds.linkLost = true then s.lamp.stepCount + 1 else s.lamp.stepCount
          stepTimer := some { length := s.params.cyclePeriod, left := s.params.cyclePeriod } })))
    ∧ ∀ (s : State) (x : LampPattern), s.released = true →
      ((s.ctrl.node = .run ∧ s.inSector .lamp = true ∧ x = s.params.lampSector)
        ∨ (s.ctrl.node = .run ∧ s.inSector .lamp = false ∧ x = s.params.lampRun)
        ∨ ((s.ctrl.node = .idle ∨ s.ctrl.node = .hold ∨ s.ctrl.node = .manual) ∧ x = s.params.lampHold)
        ∨ ((s.ctrl.node = .tripped ∨ s.ctrl.node = .standby true) ∧ x = s.params.lampFault)) →
      s.lampOn = x.steps.getLsbD (s.lamp.stepCount.toNat / x.width % x.length)

/-! ## The service records -/

/-- R163 to R165, R167: READ_PARAM and READ_ENTRY addressed by index. The answer stands in the model's own field (log
8). -/
def Obligations.ReadsAnswer : Prop :=
  (∀ (q : Request) (s : State), s.ReachedBy q →
      (¬inRange 1 34 q.item.toNat → exec (.readParam q) s = .next (s.answered 0x01#8 q 0x06#8 q.payload))
      ∧ (inRange 1 34 q.item.toNat → q.payload.b0 ≠ 0#8 → q.payload.b0 ≠ 1#8 →
          exec (.readParam q) s = .next (s.answered 0x01#8 q 0x02#8 q.payload))
      ∧ (inRange 1 34 q.item.toNat → q.payload.b0 = 0#8 → exec (.readParam q) s = .next
          (s.answered 0x01#8 q 0x01#8 (readParamValue s.activeBank.params q.item.toNat { q.payload with b1 := 0 })))
      ∧ (inRange 1 34 q.item.toNat → q.payload.b0 = 1#8 → exec (.readParam q) s = .next
          (s.answered 0x01#8 q 0x01#8 (readParamValue s.stagingBank.params q.item.toNat { q.payload with b1 := 0 }))))
  ∧ (∀ (q : Request) (s : State), s.ReachedBy q →
      (q.payload.b0 ≠ 0#8 → q.payload.b0 ≠ 1#8 →
          exec (.readEntry q) s = .next (s.answered 0x03#8 q 0x02#8 q.payload))
      ∧ (∀ b : Profile, (q.payload.b0 = 0#8 ∧ b = s.activeBank ∨ q.payload.b0 = 1#8 ∧ b = s.stagingBank) →
          (b.entries[q.item.toNat]? = none → exec (.readEntry q) s = .next (s.answered 0x03#8 q 0x03#8 q.payload))
          ∧ (∀ e, b.entries[q.item.toNat]? = some e → Sector.InRange e →
              ∃ p, exec (.readEntry q) s = .next (s.answered 0x03#8 q 0x01#8 p) ∧ p.b0 = q.payload.b0
                ∧ CarriesEntry p e)))

/-- R148, R151, R166: WRITE_PARAM addressed by index, with no swap pending: the refusals, and the one parameter
written into the staging bank. The answer stands in the model's own field (log 8); that TEETH is
carried as the number itself is read from R141, R151 and R164 (log 19). -/
def Obligations.WriteParamEditsStaging : Prop :=
  ∀ (q : Request) (s : State), s.ReachedBy q → s.table.pendingSwap = false →
    (¬inRange 1 34 q.item.toNat → exec (.writeParam q) s = .next (s.answered 0x02#8 q 0x06#8 q.payload))
    ∧ (inRange 1 34 q.item.toNat → ¬ValueAdmitted q.item.toNat q.payload →
        exec (.writeParam q) s = .next (s.answered 0x02#8 q 0x02#8 q.payload))
    ∧ (inRange 1 34 q.item.toNat → ValueAdmitted q.item.toNat q.payload →
        ∃ p, exec (.writeParam q) s = .next
            ((s.withStaging { s.stagingBank with params := p }).answered 0x02#8 q 0x01#8 q.payload)
          ∧ writeParamValue s.stagingBank.params q.item.toNat q.payload = some p
          ∧ ∀ id v, inRange 1 34 id → id ≠ q.item.toNat →
              readParamValue p id v = readParamValue s.stagingBank.params id v)

/-- R164, R165, R166: what READ_PARAM returns of a parameter within its range and set, WRITE_PARAM takes into any bank, and
READ_PARAM then returns the same again; an entry within its ranges is carried whole. No bit of a value is dropped. -/
def Obligations.ValuesAreCarriedWhole : Prop :=
  (∀ (from_ to_ : Params) (id : Nat) (v : Payload), Params.InRange from_ → from_.radius ≠ 0 → from_.vmax ≠ 0 →
      inRange 1 34 id →
      ∃ p, writeParamValue to_ id (readParamValue from_ id v) = some p
        ∧ readParamValue p id v = readParamValue from_ id v
        ∧ writeParamValue from_ id (readParamValue from_ id v) = some from_)
    ∧ ∀ (e : Sector) (v : Payload), Sector.InRange e → sectorOf (Payload.withSector v e) = some e

/-- R149, R150: WRITE_ENTRY, TRIM_ENTRIES and STAGE_FROM_ACTIVE addressed by index, with no swap pending. The answer
stands in the model's own field (log 8). -/
def Obligations.StagingListIsEdited : Prop :=
  (∀ (q : Request) (s : State), s.ReachedBy q → s.table.pendingSwap = false →
      let n := s.stagingBank.entries.length
      let i := q.item.toNat
      (n < i ∨ 32 ≤ i → exec (.writeEntry q) s = .next (s.answered 0x04#8 q 0x03#8 q.payload))
      ∧ (i ≤ n → i < 32 → (∀ e, CarriesEntry q.payload e → ¬Sector.InRange e) →
          exec (.writeEntry q) s = .next (s.answered 0x04#8 q 0x02#8 q.payload))
      ∧ (∀ e, CarriesEntry q.payload e → Sector.InRange e →
          (i < n → i < 32 → exec (.writeEntry q) s = .next
            ((s.withStagedEntries (s.stagingBank.entries.set i e)).answered 0x04#8 q 0x01#8 q.payload))
          ∧ (i = n → n < 32 → exec (.writeEntry q) s = .next
            ((s.withStagedEntries (s.stagingBank.entries ++ [e])).answered 0x04#8 q 0x01#8 q.payload))))
  ∧ (∀ (q : Request) (s : State), s.ReachedBy q → s.table.pendingSwap = false →
      (q.item.toNat ≤ s.stagingBank.entries.length → exec (.trimEntries q) s = .next
          ((s.withStagedEntries (s.stagingBank.entries.take q.item.toNat)).answered 0x05#8 q 0x01#8 q.payload))
      ∧ (s.stagingBank.entries.length < q.item.toNat →
          exec (.trimEntries q) s = .next (s.answered 0x05#8 q 0x03#8 q.payload))
      ∧ exec (.stageFromActive q) s = .next ((s.withStaging s.activeBank).answered 0x06#8 q 0x01#8 q.payload))

/-- R152 to R154, R168: COMMIT addressed by index, with no swap pending: judged by the relations of R142 and the three
tests of R144. The answer stands in the model's own field (log 8). -/
def Obligations.CommitJudgesStagingBank : Prop :=
  ∀ (q : Request) (s : State), s.ReachedBy q → s.table.pendingSwap = false →
    (CommitPasses s.stagingBank → exec (.commit q) s = .next
        (((s.withTable { s.table with pendingSwap := true }).withSlot { s.slot with pendingCommit := true }).answered
          0x07#8 q 0x01#8 q.payload))
    ∧ (¬CommitPasses s.stagingBank → exec (.commit q) s = .next
        (((s.withTable { s.table with lastCommit := .refused }).raise .profile).answered 0x07#8 q 0x04#8 q.payload))

/-- R169: SET_EVENTS addressed by index: both sets written whole, the flags kept, also while a swap is pending. The
answer stands in the model's own field (log 8). -/
def Obligations.SetEventsReplacesSets : Prop :=
  ∀ (q : Request) (s : State), s.ReachedBy q → exec (.setEvents q) s = .next
    ((s.withEvents { s.events with
      enable := q.payload.b2 ++ q.payload.b3, high := q.payload.b4 ++ q.payload.b5 }).answered 0x08#8 q 0x01#8 q.payload)

/-- R138, R170, R171: READ_LIVE addressed by index: the thirteen live values as they stand, the remaining time of the drive phase
by the drive state in tenths of a second, a part tenth whole. At END the latched ceiling and chain are
those before the turn-around of the frame that asks, by the model's choice (log 36). The answer stands in the model's own field
(log 8). -/
def Obligations.ReadLiveReturnsValues : Prop :=
  ∀ (q : Request) (s : State), s.ReachedBy q →
    let held (w : Word16) : Prop := exec (.readLive q) s = .next (s.answered 0x09#8 q 0x01#8
      { b0 := 1, b1 := 0, b2 := w.extractLsb' 8 8, b3 := w.extractLsb' 0 8, b4 := 0, b5 := 0, b6 := 0, b7 := 0 })
    let absent : Prop := exec (.readLive q) s = .next (s.answered 0x09#8 q 0x01#8
      { b0 := 0, b1 := 0, b2 := 0, b3 := 0, b4 := 0, b5 := 0, b6 := 0, b7 := 0 })
    let left (x : Option Timer) : Nat := (x.map Timer.left).getD 0
    (q.item.toNat = 0 ∨ 14 ≤ q.item.toNat → exec (.readLive q) s = .next (s.answered 0x09#8 q 0x06#8 q.payload))
    ∧ (q.item.toNat = 1 → held (BitVec.ofNat 16 s.slot.ceiling))
    ∧ (q.item.toNat = 2 → held (if s.slot.chainOpen then 1 else 0))
    ∧ (q.item.toNat = 3 → held (BitVec.ofNat 16 (s.ctrl.holds.linkLost.toNat + 2 * s.ctrl.holds.returnLost.toNat
        + 4 * s.ctrl.holds.chain.toNat + 8 * s.ctrl.holds.noSlot.toNat)))
    ∧ (q.item.toNat = 4 → held (BitVec.ofNat 16 s.line.missCount))
    ∧ (q.item.toNat = 5 → held (BitVec.ofNat 16 s.joint.holdCount))
    ∧ (q.item.toNat = 6 → held (BitVec.ofInt 16 s.joint.lastTheta))
    ∧ (q.item.toNat = 7 → held (BitVec.ofNat 16 s.wheel.period))
    ∧ (q.item.toNat = 8 → held (BitVec.ofNat 16 s.wheel.counter))
    ∧ (q.item.toNat = 9 → (s.drive.st = .off ∨ s.drive.st = .faulted) → held 0)
    ∧ (q.item.toNat = 9 → (s.drive.st = .starting ∨ s.drive.st = .stopping) →
        held (BitVec.ofNat 16 ((left s.drive.phase + 99) / 100)))
    ∧ (∀ x, q.item.toNat = 9 → s.drive.st = .running → s.params.driveMode = .duty → s.drive.jog = false →
        s.drive.period = some x → held (BitVec.ofNat 16 ((100 * s.drive.onTime - (x.length - x.left) + 99) / 100)))
    ∧ (q.item.toNat = 9 → s.drive.st = .running → (s.params.driveMode = .rate ∨ s.drive.jog = true) → held 0)
    ∧ (q.item.toNat = 9 → s.drive.st = .resting →
        held (BitVec.ofNat 16 ((max (left s.drive.period) (left s.drive.phase) + 99) / 100)))
    ∧ (q.item.toNat = 10 → held (BitVec.ofNat 16 (s.demand.sticky.joint.toNat + 2 * s.demand.sticky.overSpeed.toNat
        + 4 * s.demand.sticky.underSpeed.toNat + 8 * s.demand.sticky.nocap.toNat + 16 * s.demand.sticky.short.toNat
        + 32 * s.demand.sticky.field.toNat)))
    ∧ (q.item.toNat = 11 → s.table.lookup = none → absent)
    ∧ (∀ h, q.item.toNat = 11 → s.table.lookup = some h → held (BitVec.ofNat 16 h.index))
    ∧ (q.item.toNat = 12 → held (if s.slot.swapMade then 2 else 0))
    ∧ (q.item.toNat = 13 → s.ctrl.trip = none → absent)
    ∧ (∀ r, q.item.toNat = 13 → s.ctrl.trip = some r → held r.seq)

/-- R172: LINE_RESET addressed by index orders the kind of reset its byte names, and refuses any other byte. The
answer stands in the model's own field (log 8). -/
def Obligations.LineResetIsOrdered : Prop :=
  ∀ (q : Request) (s : State), s.ReachedBy q →
    (q.payload.b0 = 0#8 → exec (.lineReset q) s = .next
        ((s.withLine { s.line with waitingReset := some .hard }).answered 0x0A#8 q 0x01#8 q.payload))
    ∧ (q.payload.b0 = 1#8 → exec (.lineReset q) s = .next
        ((s.withLine { s.line with waitingReset := some .soft }).answered 0x0A#8 q 0x01#8 q.payload))
    ∧ (q.payload.b0 ≠ 0#8 → q.payload.b0 ≠ 1#8 →
        exec (.lineReset q) s = .next (s.answered 0x0A#8 q 0x02#8 q.payload))

/-- R160, R161, R163: an unknown operation is answered UNKNOWN_OP and changes nothing. A record that does not reach the node
goes on as sent and changes nothing, whatever its operation: one with another target, and one to target 31 whose operation
cannot be broadcast. The answer stands in the model's own field (log 8). -/
def Obligations.UnknownOpChangesNothing : Prop :=
  (∀ (op : Byte) (q : Request) (s : State), s.ReachedBy q → ¬inRange 1 10 op.toNat →
      exec (.unknownOp op q) s = .next (s.answered op q 0x05#8 q.payload))
    ∧ (∀ (op : Byte) (q : Request) (s : State), s.released = true → s.line.waitingReset = none →
      ¬inRange 1 10 op.toNat →
      (q.target.toNat ≠ s.power.index.toNat ∨ s.power.index.toNat = 0 ∨ s.power.index.toNat = 31) →
      exec (.unknownOp op q) s = .next (s.answered op q 0x00#8 q.payload))
    ∧ ∀ (op : Byte) (c : Instr) (q : Request) (s : State), (op, c) ∈ serviceCommands q → s.released = true →
      s.line.waitingReset = none → s.table.pendingSwap = false →
      (q.target.toNat ≠ s.power.index.toNat ∨ s.power.index.toNat = 0 ∨ s.power.index.toNat = 31) →
      (q.target.toNat ≠ 31 ∨ (op ≠ 0x07#8 ∧ op ≠ 0x0A#8) ∨ s.power.index.toNat = 0 ∨ s.power.index.toNat = 31) →
      exec c s = .next (s.answered op q 0x00#8 q.payload)

/-- R160, R161: a broadcast COMMIT or LINE_RESET does to the state what it does when addressed by index, and writes
nothing into the record. The record stands in the model's own field (log 8). -/
def Obligations.BroadcastActsUnanswered : Prop :=
  ∀ (q own all : Request) (s : State), s.ReachedBy own → own = { q with target := own.target } →
    all = { q with target := 31#8 } → s.table.pendingSwap = false →
    (∃ (t : State) (result : Byte), exec (.commit own) s = .next (t.answered 0x07#8 own result q.payload)
        ∧ exec (.commit all) s = .next (t.answered 0x07#8 all 0x00#8 q.payload))
    ∧ ∃ (t : State) (result : Byte), exec (.lineReset own) s = .next (t.answered 0x0A#8 own result q.payload)
        ∧ exec (.lineReset all) s = .next (t.answered 0x0A#8 all 0x00#8 q.payload)

/-- R148: the law of the staging bank: a step from a state with a swap pending, to one where it still is and no swap was
made, leaves the staging bank as it was. -/
def Obligations.PendingSwapFreezesStaging : Prop :=
  ∀ (s t : State), s.PendingLaw → step s = .next t → s.table.pendingSwap = true → t.table.pendingSwap = true →
    t.table.active = s.table.active → t.stagingBank = s.stagingBank

/-! ## The invariants -/

/-- R75, R78: the law of the demand, kept by every step. -/
def Obligations.DemandLawIsKept : Prop := State.KeptByStep State.DemandLaw

/-- R56: the law of the trip record, kept by every step. -/
def Obligations.TripRecordLawIsKept : Prop := State.KeptByStep State.TripLaw

/-- R121, R125, R131, R132: the law of the drive output, kept by every step; and, with it, that RATE_REF is 0 but in RUNNING in
RATE mode, that OFF and FAULTED hold no timer and no flag, and that a drive waits in STARTING only for DRDY. -/
def Obligations.DriveOutputLawIsKept : Prop :=
  (State.KeptByStep State.DriveLaw)
  ∧ (State.KeptByStep State.RestLaw)
  ∧ (State.KeptByStep State.ReadyLaw)

/-- R36, R95, R103, R170: the latched ceiling, the joint hold count and the return-miss count stay within their limits, and
Joint Capture stays idle at END, at every step. -/
def Obligations.CountsStayWithinLimits : Prop :=
  (State.KeptByStep State.CeilingLaw ∧ State.KeptByStep State.HoldCountLaw ∧ State.KeptByStep State.MissLaw)
  ∧ (State.KeptByStep State.EndJointLaw)

/-- R144, R148, R154: the active list stays lawful and a pending staging bank stays validated at every step. -/
def Obligations.BanksStayLawful : Prop := State.KeptByStep State.TableLaw

/-- R141, R143: both banks stay within the ranges at every step. -/
def Obligations.ProfilesStayInRange : Prop := State.KeptByStep State.RangeLaw

/-- The state at reset is lawful: every invariant holds of it. The state before power-up is the model's choice (log
1). -/
def Obligations.ResetIsLawful : Prop := State.Lawful State.reset
end

