-- ==== Sys2Proof/Laws/State.lean ====
section
/-! SUPPORT. One lemma per part of the state per named update: an update sets its own part and leaves every other. -/

namespace Sys2Proof.Machine

/-! ## withPower -/

@[simp] theorem State.withPower_power (s : State) (x : PowerBlock) : (s.withPower x).power = x := rfl

@[simp] theorem State.withPower_line (s : State) (x : PowerBlock) : (s.withPower x).line = s.line := rfl

@[simp] theorem State.withPower_slot (s : State) (x : PowerBlock) : (s.withPower x).slot = s.slot := rfl

@[simp] theorem State.withPower_ctrl (s : State) (x : PowerBlock) : (s.withPower x).ctrl = s.ctrl := rfl

@[simp] theorem State.withPower_demand (s : State) (x : PowerBlock) : (s.withPower x).demand = s.demand := rfl

@[simp] theorem State.withPower_joint (s : State) (x : PowerBlock) : (s.withPower x).joint = s.joint := rfl

@[simp] theorem State.withPower_wheel (s : State) (x : PowerBlock) : (s.withPower x).wheel = s.wheel := rfl

@[simp] theorem State.withPower_drive (s : State) (x : PowerBlock) : (s.withPower x).drive = s.drive := rfl

@[simp] theorem State.withPower_table (s : State) (x : PowerBlock) : (s.withPower x).table = s.table := rfl

@[simp] theorem State.withPower_events (s : State) (x : PowerBlock) : (s.withPower x).events = s.events := rfl

@[simp] theorem State.withPower_inputs (s : State) (x : PowerBlock) : (s.withPower x).inputs = s.inputs := rfl

@[simp] theorem State.withPower_lamp (s : State) (x : PowerBlock) : (s.withPower x).lamp = s.lamp := rfl

@[simp] theorem State.withPower_pending (s : State) (x : PowerBlock) : (s.withPower x).pending = s.pending := rfl

/-! ## withLine -/

@[simp] theorem State.withLine_power (s : State) (x : LineBlock) : (s.withLine x).power = s.power := rfl

@[simp] theorem State.withLine_line (s : State) (x : LineBlock) : (s.withLine x).line = x := rfl

@[simp] theorem State.withLine_slot (s : State) (x : LineBlock) : (s.withLine x).slot = s.slot := rfl

@[simp] theorem State.withLine_ctrl (s : State) (x : LineBlock) : (s.withLine x).ctrl = s.ctrl := rfl

@[simp] theorem State.withLine_demand (s : State) (x : LineBlock) : (s.withLine x).demand = s.demand := rfl

@[simp] theorem State.withLine_joint (s : State) (x : LineBlock) : (s.withLine x).joint = s.joint := rfl

@[simp] theorem State.withLine_wheel (s : State) (x : LineBlock) : (s.withLine x).wheel = s.wheel := rfl

@[simp] theorem State.withLine_drive (s : State) (x : LineBlock) : (s.withLine x).drive = s.drive := rfl

@[simp] theorem State.withLine_table (s : State) (x : LineBlock) : (s.withLine x).table = s.table := rfl

@[simp] theorem State.withLine_events (s : State) (x : LineBlock) : (s.withLine x).events = s.events := rfl

@[simp] theorem State.withLine_inputs (s : State) (x : LineBlock) : (s.withLine x).inputs = s.inputs := rfl

@[simp] theorem State.withLine_lamp (s : State) (x : LineBlock) : (s.withLine x).lamp = s.lamp := rfl

@[simp] theorem State.withLine_pending (s : State) (x : LineBlock) : (s.withLine x).pending = s.pending := rfl

/-! ## withSlot -/

@[simp] theorem State.withSlot_power (s : State) (x : SlotBlock) : (s.withSlot x).power = s.power := rfl

@[simp] theorem State.withSlot_line (s : State) (x : SlotBlock) : (s.withSlot x).line = s.line := rfl

@[simp] theorem State.withSlot_slot (s : State) (x : SlotBlock) : (s.withSlot x).slot = x := rfl

@[simp] theorem State.withSlot_ctrl (s : State) (x : SlotBlock) : (s.withSlot x).ctrl = s.ctrl := rfl

@[simp] theorem State.withSlot_demand (s : State) (x : SlotBlock) : (s.withSlot x).demand = s.demand := rfl

@[simp] theorem State.withSlot_joint (s : State) (x : SlotBlock) : (s.withSlot x).joint = s.joint := rfl

@[simp] theorem State.withSlot_wheel (s : State) (x : SlotBlock) : (s.withSlot x).wheel = s.wheel := rfl

@[simp] theorem State.withSlot_drive (s : State) (x : SlotBlock) : (s.withSlot x).drive = s.drive := rfl

@[simp] theorem State.withSlot_table (s : State) (x : SlotBlock) : (s.withSlot x).table = s.table := rfl

@[simp] theorem State.withSlot_events (s : State) (x : SlotBlock) : (s.withSlot x).events = s.events := rfl

@[simp] theorem State.withSlot_inputs (s : State) (x : SlotBlock) : (s.withSlot x).inputs = s.inputs := rfl

@[simp] theorem State.withSlot_lamp (s : State) (x : SlotBlock) : (s.withSlot x).lamp = s.lamp := rfl

@[simp] theorem State.withSlot_pending (s : State) (x : SlotBlock) : (s.withSlot x).pending = s.pending := rfl

/-! ## withCtrl -/

@[simp] theorem State.withCtrl_power (s : State) (x : CtrlBlock) : (s.withCtrl x).power = s.power := rfl

@[simp] theorem State.withCtrl_line (s : State) (x : CtrlBlock) : (s.withCtrl x).line = s.line := rfl

@[simp] theorem State.withCtrl_slot (s : State) (x : CtrlBlock) : (s.withCtrl x).slot = s.slot := rfl

@[simp] theorem State.withCtrl_ctrl (s : State) (x : CtrlBlock) : (s.withCtrl x).ctrl = x := rfl

@[simp] theorem State.withCtrl_demand (s : State) (x : CtrlBlock) : (s.withCtrl x).demand = s.demand := rfl

@[simp] theorem State.withCtrl_joint (s : State) (x : CtrlBlock) : (s.withCtrl x).joint = s.joint := rfl

@[simp] theorem State.withCtrl_wheel (s : State) (x : CtrlBlock) : (s.withCtrl x).wheel = s.wheel := rfl

@[simp] theorem State.withCtrl_drive (s : State) (x : CtrlBlock) : (s.withCtrl x).drive = s.drive := rfl

@[simp] theorem State.withCtrl_table (s : State) (x : CtrlBlock) : (s.withCtrl x).table = s.table := rfl

@[simp] theorem State.withCtrl_events (s : State) (x : CtrlBlock) : (s.withCtrl x).events = s.events := rfl

@[simp] theorem State.withCtrl_inputs (s : State) (x : CtrlBlock) : (s.withCtrl x).inputs = s.inputs := rfl

@[simp] theorem State.withCtrl_lamp (s : State) (x : CtrlBlock) : (s.withCtrl x).lamp = s.lamp := rfl

@[simp] theorem State.withCtrl_pending (s : State) (x : CtrlBlock) : (s.withCtrl x).pending = s.pending := rfl

/-! ## withDemand -/

@[simp] theorem State.withDemand_power (s : State) (x : DemandBlock) : (s.withDemand x).power = s.power := rfl

@[simp] theorem State.withDemand_line (s : State) (x : DemandBlock) : (s.withDemand x).line = s.line := rfl

@[simp] theorem State.withDemand_slot (s : State) (x : DemandBlock) : (s.withDemand x).slot = s.slot := rfl

@[simp] theorem State.withDemand_ctrl (s : State) (x : DemandBlock) : (s.withDemand x).ctrl = s.ctrl := rfl

@[simp] theorem State.withDemand_demand (s : State) (x : DemandBlock) : (s.withDemand x).demand = x := rfl

@[simp] theorem State.withDemand_joint (s : State) (x : DemandBlock) : (s.withDemand x).joint = s.joint := rfl

@[simp] theorem State.withDemand_wheel (s : State) (x : DemandBlock) : (s.withDemand x).wheel = s.wheel := rfl

@[simp] theorem State.withDemand_drive (s : State) (x : DemandBlock) : (s.withDemand x).drive = s.drive := rfl

@[simp] theorem State.withDemand_table (s : State) (x : DemandBlock) : (s.withDemand x).table = s.table := rfl

@[simp] theorem State.withDemand_events (s : State) (x : DemandBlock) : (s.withDemand x).events = s.events := rfl

@[simp] theorem State.withDemand_inputs (s : State) (x : DemandBlock) : (s.withDemand x).inputs = s.inputs := rfl

@[simp] theorem State.withDemand_lamp (s : State) (x : DemandBlock) : (s.withDemand x).lamp = s.lamp := rfl

@[simp] theorem State.withDemand_pending (s : State) (x : DemandBlock) : (s.withDemand x).pending = s.pending := rfl

/-! ## withJoint -/

@[simp] theorem State.withJoint_power (s : State) (x : JointBlock) : (s.withJoint x).power = s.power := rfl

@[simp] theorem State.withJoint_line (s : State) (x : JointBlock) : (s.withJoint x).line = s.line := rfl

@[simp] theorem State.withJoint_slot (s : State) (x : JointBlock) : (s.withJoint x).slot = s.slot := rfl

@[simp] theorem State.withJoint_ctrl (s : State) (x : JointBlock) : (s.withJoint x).ctrl = s.ctrl := rfl

@[simp] theorem State.withJoint_demand (s : State) (x : JointBlock) : (s.withJoint x).demand = s.demand := rfl

@[simp] theorem State.withJoint_joint (s : State) (x : JointBlock) : (s.withJoint x).joint = x := rfl

@[simp] theorem State.withJoint_wheel (s : State) (x : JointBlock) : (s.withJoint x).wheel = s.wheel := rfl

@[simp] theorem State.withJoint_drive (s : State) (x : JointBlock) : (s.withJoint x).drive = s.drive := rfl

@[simp] theorem State.withJoint_table (s : State) (x : JointBlock) : (s.withJoint x).table = s.table := rfl

@[simp] theorem State.withJoint_events (s : State) (x : JointBlock) : (s.withJoint x).events = s.events := rfl

@[simp] theorem State.withJoint_inputs (s : State) (x : JointBlock) : (s.withJoint x).inputs = s.inputs := rfl

@[simp] theorem State.withJoint_lamp (s : State) (x : JointBlock) : (s.withJoint x).lamp = s.lamp := rfl

@[simp] theorem State.withJoint_pending (s : State) (x : JointBlock) : (s.withJoint x).pending = s.pending := rfl

/-! ## withWheel -/

@[simp] theorem State.withWheel_power (s : State) (x : WheelBlock) : (s.withWheel x).power = s.power := rfl

@[simp] theorem State.withWheel_line (s : State) (x : WheelBlock) : (s.withWheel x).line = s.line := rfl

@[simp] theorem State.withWheel_slot (s : State) (x : WheelBlock) : (s.withWheel x).slot = s.slot := rfl

@[simp] theorem State.withWheel_ctrl (s : State) (x : WheelBlock) : (s.withWheel x).ctrl = s.ctrl := rfl

@[simp] theorem State.withWheel_demand (s : State) (x : WheelBlock) : (s.withWheel x).demand = s.demand := rfl

@[simp] theorem State.withWheel_joint (s : State) (x : WheelBlock) : (s.withWheel x).joint = s.joint := rfl

@[simp] theorem State.withWheel_wheel (s : State) (x : WheelBlock) : (s.withWheel x).wheel = x := rfl

@[simp] theorem State.withWheel_drive (s : State) (x : WheelBlock) : (s.withWheel x).drive = s.drive := rfl

@[simp] theorem State.withWheel_table (s : State) (x : WheelBlock) : (s.withWheel x).table = s.table := rfl

@[simp] theorem State.withWheel_events (s : State) (x : WheelBlock) : (s.withWheel x).events = s.events := rfl

@[simp] theorem State.withWheel_inputs (s : State) (x : WheelBlock) : (s.withWheel x).inputs = s.inputs := rfl

@[simp] theorem State.withWheel_lamp (s : State) (x : WheelBlock) : (s.withWheel x).lamp = s.lamp := rfl

@[simp] theorem State.withWheel_pending (s : State) (x : WheelBlock) : (s.withWheel x).pending = s.pending := rfl

/-! ## withDrive -/

@[simp] theorem State.withDrive_power (s : State) (x : DriveBlock) : (s.withDrive x).power = s.power := rfl

@[simp] theorem State.withDrive_line (s : State) (x : DriveBlock) : (s.withDrive x).line = s.line := rfl

@[simp] theorem State.withDrive_slot (s : State) (x : DriveBlock) : (s.withDrive x).slot = s.slot := rfl

@[simp] theorem State.withDrive_ctrl (s : State) (x : DriveBlock) : (s.withDrive x).ctrl = s.ctrl := rfl

@[simp] theorem State.withDrive_demand (s : State) (x : DriveBlock) : (s.withDrive x).demand = s.demand := rfl

@[simp] theorem State.withDrive_joint (s : State) (x : DriveBlock) : (s.withDrive x).joint = s.joint := rfl

@[simp] theorem State.withDrive_wheel (s : State) (x : DriveBlock) : (s.withDrive x).wheel = s.wheel := rfl

@[simp] theorem State.withDrive_drive (s : State) (x : DriveBlock) : (s.withDrive x).drive = x := rfl

@[simp] theorem State.withDrive_table (s : State) (x : DriveBlock) : (s.withDrive x).table = s.table := rfl

@[simp] theorem State.withDrive_events (s : State) (x : DriveBlock) : (s.withDrive x).events = s.events := rfl

@[simp] theorem State.withDrive_inputs (s : State) (x : DriveBlock) : (s.withDrive x).inputs = s.inputs := rfl

@[simp] theorem State.withDrive_lamp (s : State) (x : DriveBlock) : (s.withDrive x).lamp = s.lamp := rfl

@[simp] theorem State.withDrive_pending (s : State) (x : DriveBlock) : (s.withDrive x).pending = s.pending := rfl

/-! ## withTable -/

@[simp] theorem State.withTable_power (s : State) (x : TableBlock) : (s.withTable x).power = s.power := rfl

@[simp] theorem State.withTable_line (s : State) (x : TableBlock) : (s.withTable x).line = s.line := rfl

@[simp] theorem State.withTable_slot (s : State) (x : TableBlock) : (s.withTable x).slot = s.slot := rfl

@[simp] theorem State.withTable_ctrl (s : State) (x : TableBlock) : (s.withTable x).ctrl = s.ctrl := rfl

@[simp] theorem State.withTable_demand (s : State) (x : TableBlock) : (s.withTable x).demand = s.demand := rfl

@[simp] theorem State.withTable_joint (s : State) (x : TableBlock) : (s.withTable x).joint = s.joint := rfl

@[simp] theorem State.withTable_wheel (s : State) (x : TableBlock) : (s.withTable x).wheel = s.wheel := rfl

@[simp] theorem State.withTable_drive (s : State) (x : TableBlock) : (s.withTable x).drive = s.drive := rfl

@[simp] theorem State.withTable_table (s : State) (x : TableBlock) : (s.withTable x).table = x := rfl

@[simp] theorem State.withTable_events (s : State) (x : TableBlock) : (s.withTable x).events = s.events := rfl

@[simp] theorem State.withTable_inputs (s : State) (x : TableBlock) : (s.withTable x).inputs = s.inputs := rfl

@[simp] theorem State.withTable_lamp (s : State) (x : TableBlock) : (s.withTable x).lamp = s.lamp := rfl

@[simp] theorem State.withTable_pending (s : State) (x : TableBlock) : (s.withTable x).pending = s.pending := rfl

/-! ## withEvents -/

@[simp] theorem State.withEvents_power (s : State) (x : EventBlock) : (s.withEvents x).power = s.power := rfl

@[simp] theorem State.withEvents_line (s : State) (x : EventBlock) : (s.withEvents x).line = s.line := rfl

@[simp] theorem State.withEvents_slot (s : State) (x : EventBlock) : (s.withEvents x).slot = s.slot := rfl

@[simp] theorem State.withEvents_ctrl (s : State) (x : EventBlock) : (s.withEvents x).ctrl = s.ctrl := rfl

@[simp] theorem State.withEvents_demand (s : State) (x : EventBlock) : (s.withEvents x).demand = s.demand := rfl

@[simp] theorem State.withEvents_joint (s : State) (x : EventBlock) : (s.withEvents x).joint = s.joint := rfl

@[simp] theorem State.withEvents_wheel (s : State) (x : EventBlock) : (s.withEvents x).wheel = s.wheel := rfl

@[simp] theorem State.withEvents_drive (s : State) (x : EventBlock) : (s.withEvents x).drive = s.drive := rfl

@[simp] theorem State.withEvents_table (s : State) (x : EventBlock) : (s.withEvents x).table = s.table := rfl

@[simp] theorem State.withEvents_events (s : State) (x : EventBlock) : (s.withEvents x).events = x := rfl

@[simp] theorem State.withEvents_inputs (s : State) (x : EventBlock) : (s.withEvents x).inputs = s.inputs := rfl

@[simp] theorem State.withEvents_lamp (s : State) (x : EventBlock) : (s.withEvents x).lamp = s.lamp := rfl

@[simp] theorem State.withEvents_pending (s : State) (x : EventBlock) : (s.withEvents x).pending = s.pending := rfl

/-! ## withInputs -/

@[simp] theorem State.withInputs_power (s : State) (x : PerInput InputState) : (s.withInputs x).power = s.power := rfl

@[simp] theorem State.withInputs_line (s : State) (x : PerInput InputState) : (s.withInputs x).line = s.line := rfl

@[simp] theorem State.withInputs_slot (s : State) (x : PerInput InputState) : (s.withInputs x).slot = s.slot := rfl

@[simp] theorem State.withInputs_ctrl (s : State) (x : PerInput InputState) : (s.withInputs x).ctrl = s.ctrl := rfl

@[simp] theorem State.withInputs_demand (s : State) (x : PerInput InputState) : (s.withInputs x).demand = s.demand := rfl

@[simp] theorem State.withInputs_joint (s : State) (x : PerInput InputState) : (s.withInputs x).joint = s.joint := rfl

@[simp] theorem State.withInputs_wheel (s : State) (x : PerInput InputState) : (s.withInputs x).wheel = s.wheel := rfl

@[simp] theorem State.withInputs_drive (s : State) (x : PerInput InputState) : (s.withInputs x).drive = s.drive := rfl

@[simp] theorem State.withInputs_table (s : State) (x : PerInput InputState) : (s.withInputs x).table = s.table := rfl

@[simp] theorem State.withInputs_events (s : State) (x : PerInput InputState) : (s.withInputs x).events = s.events := rfl

@[simp] theorem State.withInputs_inputs (s : State) (x : PerInput InputState) : (s.withInputs x).inputs = x := rfl

@[simp] theorem State.withInputs_lamp (s : State) (x : PerInput InputState) : (s.withInputs x).lamp = s.lamp := rfl

@[simp] theorem State.withInputs_pending (s : State) (x : PerInput InputState) : (s.withInputs x).pending = s.pending := rfl

/-! ## withLamp -/

@[simp] theorem State.withLamp_power (s : State) (x : LampBlock) : (s.withLamp x).power = s.power := rfl

@[simp] theorem State.withLamp_line (s : State) (x : LampBlock) : (s.withLamp x).line = s.line := rfl

@[simp] theorem State.withLamp_slot (s : State) (x : LampBlock) : (s.withLamp x).slot = s.slot := rfl

@[simp] theorem State.withLamp_ctrl (s : State) (x : LampBlock) : (s.withLamp x).ctrl = s.ctrl := rfl

@[simp] theorem State.withLamp_demand (s : State) (x : LampBlock) : (s.withLamp x).demand = s.demand := rfl

@[simp] theorem State.withLamp_joint (s : State) (x : LampBlock) : (s.withLamp x).joint = s.joint := rfl

@[simp] theorem State.withLamp_wheel (s : State) (x : LampBlock) : (s.withLamp x).wheel = s.wheel := rfl

@[simp] theorem State.withLamp_drive (s : State) (x : LampBlock) : (s.withLamp x).drive = s.drive := rfl

@[simp] theorem State.withLamp_table (s : State) (x : LampBlock) : (s.withLamp x).table = s.table := rfl

@[simp] theorem State.withLamp_events (s : State) (x : LampBlock) : (s.withLamp x).events = s.events := rfl

@[simp] theorem State.withLamp_inputs (s : State) (x : LampBlock) : (s.withLamp x).inputs = s.inputs := rfl

@[simp] theorem State.withLamp_lamp (s : State) (x : LampBlock) : (s.withLamp x).lamp = x := rfl

@[simp] theorem State.withLamp_pending (s : State) (x : LampBlock) : (s.withLamp x).pending = s.pending := rfl

/-! ## withPending -/

@[simp] theorem State.withPending_power (s : State) (x : List Instr) : (s.withPending x).power = s.power := rfl

@[simp] theorem State.withPending_line (s : State) (x : List Instr) : (s.withPending x).line = s.line := rfl

@[simp] theorem State.withPending_slot (s : State) (x : List Instr) : (s.withPending x).slot = s.slot := rfl

@[simp] theorem State.withPending_ctrl (s : State) (x : List Instr) : (s.withPending x).ctrl = s.ctrl := rfl

@[simp] theorem State.withPending_demand (s : State) (x : List Instr) : (s.withPending x).demand = s.demand := rfl

@[simp] theorem State.withPending_joint (s : State) (x : List Instr) : (s.withPending x).joint = s.joint := rfl

@[simp] theorem State.withPending_wheel (s : State) (x : List Instr) : (s.withPending x).wheel = s.wheel := rfl

@[simp] theorem State.withPending_drive (s : State) (x : List Instr) : (s.withPending x).drive = s.drive := rfl

@[simp] theorem State.withPending_table (s : State) (x : List Instr) : (s.withPending x).table = s.table := rfl

@[simp] theorem State.withPending_events (s : State) (x : List Instr) : (s.withPending x).events = s.events := rfl

@[simp] theorem State.withPending_inputs (s : State) (x : List Instr) : (s.withPending x).inputs = s.inputs := rfl

@[simp] theorem State.withPending_lamp (s : State) (x : List Instr) : (s.withPending x).lamp = s.lamp := rfl

@[simp] theorem State.withPending_pending (s : State) (x : List Instr) : (s.withPending x).pending = x := rfl

/-! ## Every part the same -/

/-- Two states with the same parts are the same state. -/
theorem State.eq_of_sameBlocks {s t : State} (h : ∀ b, State.sameBlock s t b) : t = s := by
  have h1 := h .power
  have h2 := h .line
  have h3 := h .slot
  have h4 := h .ctrl
  have h5 := h .demand
  have h6 := h .joint
  have h7 := h .wheel
  have h8 := h .drive
  have h9 := h .table
  have h10 := h .events
  have h11 := h .inputs
  have h12 := h .lamp
  have h13 := h .pending
  cases s
  cases t
  simp only [State.sameBlock] at h1 h2 h3 h4 h5 h6 h7 h8 h9 h10 h11 h12 h13
  subst h1 h2 h3 h4 h5 h6 h7 h8 h9 h10 h11 h12 h13
  rfl

end Sys2Proof.Machine
end

