-- ==== Sys2Proof/Laws/Bytes.lean ====
section
/-! SUPPORT. The bytes of a frame: reading one after writing some, lengths, and the check of a sealed frame (R5, R9). -/

namespace Sys2Proof.Machine

@[simp] theorem length_writeBytes (bs : List Byte) : ∀ (f : Frame) (i : Nat), (writeBytes f i bs).length = f.length := by
  induction bs with
  | nil => intro f i; rfl
  | cons b bs ih => intro f i; simp [writeBytes, ih]

/-- Reading a byte after writing one. -/
theorem byteAt_set (f : Frame) (i j : Nat) (b : Byte) :
    byteAt (f.set i b) j = if i = j ∧ i < f.length then b else byteAt f j := by
  simp only [byteAt, List.getD_eq_getElem?_getD, List.getElem?_set]
  split
  · next h => subst h; split <;> simp_all
  · next h => simp [h]

/-- Reading a byte outside the bytes written. -/
theorem byteAt_writeBytes_outside (bs : List Byte) : ∀ (f : Frame) (i j : Nat), (j < i ∨ i + bs.length ≤ j) →
    byteAt (writeBytes f i bs) j = byteAt f j := by
  induction bs with
  | nil => intro f i j _; rfl
  | cons b bs ih =>
    intro f i j h
    simp only [List.length_cons] at h
    rw [writeBytes, ih _ _ _ (by omega), byteAt_set, if_neg (by omega)]

/-- Reading a byte that was written. -/
theorem byteAt_writeBytes_inside (bs : List Byte) : ∀ (f : Frame) (i j : Nat), i + bs.length ≤ f.length → j < bs.length →
    byteAt (writeBytes f i bs) (i + j) = bs.getD j 0 := by
  induction bs with
  | nil => intro f i j _ h; simp at h
  | cons b bs ih =>
    intro f i j hf hj
    simp only [List.length_cons] at hf hj
    rw [writeBytes]
    cases j with
    | zero =>
      rw [byteAt_writeBytes_outside _ _ _ _ (by omega), byteAt_set, if_pos (by omega)]
      rfl
    | succ j =>
      have h := ih (f.set i b) (i + 1) j (by rw [List.length_set]; omega) (by omega)
      rw [show i + (j + 1) = i + 1 + j by omega, h]
      rfl

@[simp] theorem length_setCeiling (f : Frame) (c : Nat) : (setCeiling f c).length = f.length := by
  simp [setCeiling]

@[simp] theorem length_setChainOpen (f : Frame) (b : Byte) : (setChainOpen f b).length = f.length := by
  simp [setChainOpen]

@[simp] theorem length_setInbound (f : Frame) : (setInbound f).length = f.length := by
  simp [setInbound]

@[simp] theorem length_setStatus (f : Frame) (k : Nat) (bs : List Byte) : (setStatus f k bs).length = f.length := by
  simp [setStatus]

@[simp] theorem length_setAnswer (f : Frame) (r : ServiceRecord) : (setAnswer f r).length = f.length := by
  simp [setAnswer]

theorem length_sealFrame (f : Frame) (h : 2 ≤ f.length) : (sealFrame f).length = f.length := by
  simp only [sealFrame, wordBytes, List.length_append, List.length_take, List.length_cons, List.length_nil]
  omega

/-- Sealing changes no byte before the last two. -/
theorem byteAt_sealFrame (f : Frame) (i : Nat) (h : i + 2 < f.length) :
    byteAt (sealFrame f) i = byteAt f i := by
  have hi : i < f.length - 2 := by omega
  have hl : i < (f.take (f.length - 2)).length := by rw [List.length_take]; omega
  simp only [byteAt, sealFrame, List.getD_eq_getElem?_getD, List.getElem?_append_left hl, List.getElem?_take, hi, if_pos]

/-- The two bytes of a field give the field back. -/
theorem highByte_append_lowByte (w : Word16) : (highByte w ++ lowByte w : Word16) = w := by
  apply BitVec.eq_of_getLsbD_eq
  intro i hi
  simp only [highByte, lowByte, BitVec.getLsbD_append, BitVec.getLsbD_extractLsb']
  by_cases h : i < 8
  · simp [h]
  · simp [h, show i - 8 < 8 by omega, show 8 + (i - 8) = i by omega]

/-- A field read back after its two bytes were written. -/
theorem word16At_writeBytes (f : Frame) (i : Nat) (w : Word16) (h : i + 2 ≤ f.length) :
    word16At (writeBytes f i (wordBytes w)) i = w := by
  have h0 := byteAt_writeBytes_inside (wordBytes w) f i 0 (by simpa [wordBytes] using h) (by simp [wordBytes])
  have h1 := byteAt_writeBytes_inside (wordBytes w) f i 1 (by simpa [wordBytes] using h) (by simp [wordBytes])
  simp only [Nat.add_zero] at h0
  rw [word16At, h0, h1]
  exact highByte_append_lowByte w

/-- A sealed frame carries its own check (R9). -/
theorem checkHolds_sealFrame (f : Frame) (h : 2 ≤ f.length) : checkHolds (sealFrame f) = true := by
  have hl := length_sealFrame f h
  have ht : (sealFrame f).take (f.length - 2) = f.take (f.length - 2) := by
    rw [sealFrame, List.take_append_of_le_length (by rw [List.length_take]; omega), List.take_take, Nat.min_self]
  have hb (j : Nat) (hj : j < 2) : byteAt (sealFrame f) (f.length - 2 + j) =
      (wordBytes (crc16 (f.take (f.length - 2)))).getD j 0 := by
    have hge : (f.take (f.length - 2)).length ≤ f.length - 2 + j := by rw [List.length_take]; omega
    simp only [byteAt, sealFrame, List.getD_eq_getElem?_getD, List.getElem?_append_right hge, List.length_take]
    rw [show f.length - 2 + j - min (f.length - 2) f.length = j by omega]
  have h0 := hb 0 (by omega)
  have h1 := hb 1 (by omega)
  simp only [Nat.add_zero] at h0
  simp only [checkHolds, hl, ht, word16At, h0, h1, decide_eq_true_eq]
  exact (highByte_append_lowByte _).symm

end Sys2Proof.Machine
end

