-- ==== Sys2Proof/Laws/Frames.lean ====
section
/-! SUPPORT. What each shared operation leaves unchanged: one lemma per operation that lists the blocks it may change, and
the parts outside them as rewriting lemmas. -/

namespace Sys2Proof.Machine

/-! ## The relation -/

theorem State.SameOutside.refl (blocks : List BlockName) (s : State) : State.SameOutside blocks s s := by
  intro b _
  cases b <;> rfl

theorem State.SameOutside.mono {small large : List BlockName} {s t : State} (h : State.SameOutside small s t)
    (sub : ∀ b, b ∈ small → b ∈ large) : State.SameOutside large s t :=
  fun b hb => h b fun hs => hb (sub b hs)

theorem State.SameOutside.trans {blocks : List BlockName} {s t u : State} (h : State.SameOutside blocks s t)
    (k : State.SameOutside blocks t u) : State.SameOutside blocks s u := by
  intro b hb
  have h1 := h b hb
  have h2 := k b hb
  cases b <;> exact Eq.trans h2 h1

/-! ## Functions of one block -/

theorem State.params_congr {s t : State} (h : t.table = s.table) : t.params = s.params := by
  simp only [State.params, State.activeBank, h]

theorem State.isEnd_congr {s t : State} (h : t.power = s.power) : t.isEnd = s.isEnd := by
  simp only [State.isEnd, h]

theorem State.released_congr {s t : State} (h : t.power = s.power) : t.released = s.released := by
  simp only [State.released, h]

theorem State.activeBank_congr {s t : State} (h : t.table = s.table) : t.activeBank = s.activeBank := by
  simp only [State.activeBank, h]

theorem State.stagingBank_congr {s t : State} (h : t.table = s.table) : t.stagingBank = s.stagingBank := by
  simp only [State.stagingBank, h]

theorem State.indexValid_congr {s t : State} (h : t.power = s.power) : t.indexValid = s.indexValid := by
  simp only [State.indexValid, h]

@[simp] theorem State.withPower_params (s : State) (x : PowerBlock) : (s.withPower x).params = s.params := rfl

@[simp] theorem State.withLine_params (s : State) (x : LineBlock) : (s.withLine x).params = s.params := rfl

@[simp] theorem State.withLine_isEnd (s : State) (x : LineBlock) : (s.withLine x).isEnd = s.isEnd := rfl

@[simp] theorem State.withLine_released (s : State) (x : LineBlock) : (s.withLine x).released = s.released := rfl

@[simp] theorem State.withSlot_params (s : State) (x : SlotBlock) : (s.withSlot x).params = s.params := rfl

@[simp] theorem State.withSlot_isEnd (s : State) (x : SlotBlock) : (s.withSlot x).isEnd = s.isEnd := rfl

@[simp] theorem State.withSlot_released (s : State) (x : SlotBlock) : (s.withSlot x).released = s.released := rfl

@[simp] theorem State.withCtrl_params (s : State) (x : CtrlBlock) : (s.withCtrl x).params = s.params := rfl

@[simp] theorem State.withCtrl_isEnd (s : State) (x : CtrlBlock) : (s.withCtrl x).isEnd = s.isEnd := rfl

@[simp] theorem State.withCtrl_released (s : State) (x : CtrlBlock) : (s.withCtrl x).released = s.released := rfl

@[simp] theorem State.withDemand_params (s : State) (x : DemandBlock) : (s.withDemand x).params = s.params := rfl

@[simp] theorem State.withDemand_isEnd (s : State) (x : DemandBlock) : (s.withDemand x).isEnd = s.isEnd := rfl

@[simp] theorem State.withDemand_released (s : State) (x : DemandBlock) : (s.withDemand x).released = s.released := rfl

@[simp] theorem State.withJoint_params (s : State) (x : JointBlock) : (s.withJoint x).params = s.params := rfl

@[simp] theorem State.withJoint_isEnd (s : State) (x : JointBlock) : (s.withJoint x).isEnd = s.isEnd := rfl

@[simp] theorem State.withJoint_released (s : State) (x : JointBlock) : (s.withJoint x).released = s.released := rfl

@[simp] theorem State.withWheel_params (s : State) (x : WheelBlock) : (s.withWheel x).params = s.params := rfl

@[simp] theorem State.withWheel_isEnd (s : State) (x : WheelBlock) : (s.withWheel x).isEnd = s.isEnd := rfl

@[simp] theorem State.withWheel_released (s : State) (x : WheelBlock) : (s.withWheel x).released = s.released := rfl

@[simp] theorem State.withDrive_params (s : State) (x : DriveBlock) : (s.withDrive x).params = s.params := rfl

@[simp] theorem State.withDrive_isEnd (s : State) (x : DriveBlock) : (s.withDrive x).isEnd = s.isEnd := rfl

@[simp] theorem State.withDrive_released (s : State) (x : DriveBlock) : (s.withDrive x).released = s.released := rfl

@[simp] theorem State.withTable_isEnd (s : State) (x : TableBlock) : (s.withTable x).isEnd = s.isEnd := rfl

@[simp] theorem State.withTable_released (s : State) (x : TableBlock) : (s.withTable x).released = s.released := rfl

@[simp] theorem State.withEvents_params (s : State) (x : EventBlock) : (s.withEvents x).params = s.params := rfl

@[simp] theorem State.withEvents_isEnd (s : State) (x : EventBlock) : (s.withEvents x).isEnd = s.isEnd := rfl

@[simp] theorem State.withEvents_released (s : State) (x : EventBlock) : (s.withEvents x).released = s.released := rfl

@[simp] theorem State.withInputs_params (s : State) (x : PerInput InputState) : (s.withInputs x).params = s.params := rfl

@[simp] theorem State.withInputs_isEnd (s : State) (x : PerInput InputState) : (s.withInputs x).isEnd = s.isEnd := rfl

@[simp] theorem State.withInputs_released (s : State) (x : PerInput InputState) : (s.withInputs x).released = s.released := rfl

@[simp] theorem State.withLamp_params (s : State) (x : LampBlock) : (s.withLamp x).params = s.params := rfl

@[simp] theorem State.withLamp_isEnd (s : State) (x : LampBlock) : (s.withLamp x).isEnd = s.isEnd := rfl

@[simp] theorem State.withLamp_released (s : State) (x : LampBlock) : (s.withLamp x).released = s.released := rfl

@[simp] theorem State.withPending_params (s : State) (x : List Instr) : (s.withPending x).params = s.params := rfl

@[simp] theorem State.withPending_isEnd (s : State) (x : List Instr) : (s.withPending x).isEnd = s.isEnd := rfl

@[simp] theorem State.withPending_released (s : State) (x : List Instr) : (s.withPending x).released = s.released := rfl

/-! ## Events and conditions -/

theorem State.raise_frame (s : State) (e : Event) : State.SameOutside [.events] s (s.raise e) := by
  intro b hb
  unfold State.raise
  cases b <;> simp only [State.sameBlock] <;> first | (simp at hb; done) | simp

@[simp] theorem State.raise_power (s : State) (e : Event) : (s.raise e).power = s.power :=
  State.raise_frame s e .power (by decide)

@[simp] theorem State.raise_line (s : State) (e : Event) : (s.raise e).line = s.line :=
  State.raise_frame s e .line (by decide)

@[simp] theorem State.raise_slot (s : State) (e : Event) : (s.raise e).slot = s.slot :=
  State.raise_frame s e .slot (by decide)

@[simp] theorem State.raise_ctrl (s : State) (e : Event) : (s.raise e).ctrl = s.ctrl :=
  State.raise_frame s e .ctrl (by decide)

@[simp] theorem State.raise_demand (s : State) (e : Event) : (s.raise e).demand = s.demand :=
  State.raise_frame s e .demand (by decide)

@[simp] theorem State.raise_joint (s : State) (e : Event) : (s.raise e).joint = s.joint :=
  State.raise_frame s e .joint (by decide)

@[simp] theorem State.raise_wheel (s : State) (e : Event) : (s.raise e).wheel = s.wheel :=
  State.raise_frame s e .wheel (by decide)

@[simp] theorem State.raise_drive (s : State) (e : Event) : (s.raise e).drive = s.drive :=
  State.raise_frame s e .drive (by decide)

@[simp] theorem State.raise_table (s : State) (e : Event) : (s.raise e).table = s.table :=
  State.raise_frame s e .table (by decide)

@[simp] theorem State.raise_inputs (s : State) (e : Event) : (s.raise e).inputs = s.inputs :=
  State.raise_frame s e .inputs (by decide)

@[simp] theorem State.raise_lamp (s : State) (e : Event) : (s.raise e).lamp = s.lamp :=
  State.raise_frame s e .lamp (by decide)

@[simp] theorem State.raise_pending (s : State) (e : Event) : (s.raise e).pending = s.pending :=
  State.raise_frame s e .pending (by decide)

@[simp] theorem State.raise_params (s : State) (e : Event) : (s.raise e).params = s.params :=
  State.params_congr (State.raise_table s e)

@[simp] theorem State.raise_isEnd (s : State) (e : Event) : (s.raise e).isEnd = s.isEnd :=
  State.isEnd_congr (State.raise_power s e)

@[simp] theorem State.raise_released (s : State) (e : Event) : (s.raise e).released = s.released :=
  State.released_congr (State.raise_power s e)

theorem State.raiseIf_frame (s : State) (b : Bool) (e : Event) : State.SameOutside [.events] s (s.raiseIf b e) := by
  intro b hb
  unfold State.raiseIf
  cases b <;> simp only [State.sameBlock] <;> first | (simp at hb; done) | (repeat' split) <;> simp

@[simp] theorem State.raiseIf_power (s : State) (b : Bool) (e : Event) : (s.raiseIf b e).power = s.power :=
  State.raiseIf_frame s b e .power (by decide)

@[simp] theorem State.raiseIf_line (s : State) (b : Bool) (e : Event) : (s.raiseIf b e).line = s.line :=
  State.raiseIf_frame s b e .line (by decide)

@[simp] theorem State.raiseIf_slot (s : State) (b : Bool) (e : Event) : (s.raiseIf b e).slot = s.slot :=
  State.raiseIf_frame s b e .slot (by decide)

@[simp] theorem State.raiseIf_ctrl (s : State) (b : Bool) (e : Event) : (s.raiseIf b e).ctrl = s.ctrl :=
  State.raiseIf_frame s b e .ctrl (by decide)

@[simp] theorem State.raiseIf_demand (s : State) (b : Bool) (e : Event) : (s.raiseIf b e).demand = s.demand :=
  State.raiseIf_frame s b e .demand (by decide)

@[simp] theorem State.raiseIf_joint (s : State) (b : Bool) (e : Event) : (s.raiseIf b e).joint = s.joint :=
  State.raiseIf_frame s b e .joint (by decide)

@[simp] theorem State.raiseIf_wheel (s : State) (b : Bool) (e : Event) : (s.raiseIf b e).wheel = s.wheel :=
  State.raiseIf_frame s b e .wheel (by decide)

@[simp] theorem State.raiseIf_drive (s : State) (b : Bool) (e : Event) : (s.raiseIf b e).drive = s.drive :=
  State.raiseIf_frame s b e .drive (by decide)

@[simp] theorem State.raiseIf_table (s : State) (b : Bool) (e : Event) : (s.raiseIf b e).table = s.table :=
  State.raiseIf_frame s b e .table (by decide)

@[simp] theorem State.raiseIf_inputs (s : State) (b : Bool) (e : Event) : (s.raiseIf b e).inputs = s.inputs :=
  State.raiseIf_frame s b e .inputs (by decide)

@[simp] theorem State.raiseIf_lamp (s : State) (b : Bool) (e : Event) : (s.raiseIf b e).lamp = s.lamp :=
  State.raiseIf_frame s b e .lamp (by decide)

@[simp] theorem State.raiseIf_pending (s : State) (b : Bool) (e : Event) : (s.raiseIf b e).pending = s.pending :=
  State.raiseIf_frame s b e .pending (by decide)

@[simp] theorem State.raiseIf_params (s : State) (b : Bool) (e : Event) : (s.raiseIf b e).params = s.params :=
  State.params_congr (State.raiseIf_table s b e)

@[simp] theorem State.raiseIf_isEnd (s : State) (b : Bool) (e : Event) : (s.raiseIf b e).isEnd = s.isEnd :=
  State.isEnd_congr (State.raiseIf_power s b e)

@[simp] theorem State.raiseIf_released (s : State) (b : Bool) (e : Event) : (s.raiseIf b e).released = s.released :=
  State.released_congr (State.raiseIf_power s b e)

theorem State.raiseCondition_frame (s : State) (x : Condition) : State.SameOutside [.demand, .events] s (s.raiseCondition x) := by
  intro b hb
  unfold State.raiseCondition
  cases b <;> simp only [State.sameBlock] <;> first | (simp at hb; done) | simp

@[simp] theorem State.raiseCondition_power (s : State) (x : Condition) : (s.raiseCondition x).power = s.power :=
  State.raiseCondition_frame s x .power (by decide)

@[simp] theorem State.raiseCondition_line (s : State) (x : Condition) : (s.raiseCondition x).line = s.line :=
  State.raiseCondition_frame s x .line (by decide)

@[simp] theorem State.raiseCondition_slot (s : State) (x : Condition) : (s.raiseCondition x).slot = s.slot :=
  State.raiseCondition_frame s x .slot (by decide)

@[simp] theorem State.raiseCondition_ctrl (s : State) (x : Condition) : (s.raiseCondition x).ctrl = s.ctrl :=
  State.raiseCondition_frame s x .ctrl (by decide)

@[simp] theorem State.raiseCondition_joint (s : State) (x : Condition) : (s.raiseCondition x).joint = s.joint :=
  State.raiseCondition_frame s x .joint (by decide)

@[simp] theorem State.raiseCondition_wheel (s : State) (x : Condition) : (s.raiseCondition x).wheel = s.wheel :=
  State.raiseCondition_frame s x .wheel (by decide)

@[simp] theorem State.raiseCondition_drive (s : State) (x : Condition) : (s.raiseCondition x).drive = s.drive :=
  State.raiseCondition_frame s x .drive (by decide)

@[simp] theorem State.raiseCondition_table (s : State) (x : Condition) : (s.raiseCondition x).table = s.table :=
  State.raiseCondition_frame s x .table (by decide)

@[simp] theorem State.raiseCondition_inputs (s : State) (x : Condition) : (s.raiseCondition x).inputs = s.inputs :=
  State.raiseCondition_frame s x .inputs (by decide)

@[simp] theorem State.raiseCondition_lamp (s : State) (x : Condition) : (s.raiseCondition x).lamp = s.lamp :=
  State.raiseCondition_frame s x .lamp (by decide)

@[simp] theorem State.raiseCondition_pending (s : State) (x : Condition) : (s.raiseCondition x).pending = s.pending :=
  State.raiseCondition_frame s x .pending (by decide)

@[simp] theorem State.raiseCondition_params (s : State) (x : Condition) : (s.raiseCondition x).params = s.params :=
  State.params_congr (State.raiseCondition_table s x)

@[simp] theorem State.raiseCondition_isEnd (s : State) (x : Condition) : (s.raiseCondition x).isEnd = s.isEnd :=
  State.isEnd_congr (State.raiseCondition_power s x)

@[simp] theorem State.raiseCondition_released (s : State) (x : Condition) : (s.raiseCondition x).released = s.released :=
  State.released_congr (State.raiseCondition_power s x)

theorem State.raiseConditionIf_frame (s : State) (b : Bool) (x : Condition) : State.SameOutside [.demand, .events] s (s.raiseConditionIf b x) := by
  intro b hb
  unfold State.raiseConditionIf
  cases b <;> simp only [State.sameBlock] <;> first | (simp at hb; done) | (repeat' split) <;> simp

@[simp] theorem State.raiseConditionIf_power (s : State) (b : Bool) (x : Condition) : (s.raiseConditionIf b x).power = s.power :=
  State.raiseConditionIf_frame s b x .power (by decide)

@[simp] theorem State.raiseConditionIf_line (s : State) (b : Bool) (x : Condition) : (s.raiseConditionIf b x).line = s.line :=
  State.raiseConditionIf_frame s b x .line (by decide)

@[simp] theorem State.raiseConditionIf_slot (s : State) (b : Bool) (x : Condition) : (s.raiseConditionIf b x).slot = s.slot :=
  State.raiseConditionIf_frame s b x .slot (by decide)

@[simp] theorem State.raiseConditionIf_ctrl (s : State) (b : Bool) (x : Condition) : (s.raiseConditionIf b x).ctrl = s.ctrl :=
  State.raiseConditionIf_frame s b x .ctrl (by decide)

@[simp] theorem State.raiseConditionIf_joint (s : State) (b : Bool) (x : Condition) : (s.raiseConditionIf b x).joint = s.joint :=
  State.raiseConditionIf_frame s b x .joint (by decide)

@[simp] theorem State.raiseConditionIf_wheel (s : State) (b : Bool) (x : Condition) : (s.raiseConditionIf b x).wheel = s.wheel :=
  State.raiseConditionIf_frame s b x .wheel (by decide)

@[simp] theorem State.raiseConditionIf_drive (s : State) (b : Bool) (x : Condition) : (s.raiseConditionIf b x).drive = s.drive :=
  State.raiseConditionIf_frame s b x .drive (by decide)

@[simp] theorem State.raiseConditionIf_table (s : State) (b : Bool) (x : Condition) : (s.raiseConditionIf b x).table = s.table :=
  State.raiseConditionIf_frame s b x .table (by decide)

@[simp] theorem State.raiseConditionIf_inputs (s : State) (b : Bool) (x : Condition) : (s.raiseConditionIf b x).inputs = s.inputs :=
  State.raiseConditionIf_frame s b x .inputs (by decide)

@[simp] theorem State.raiseConditionIf_lamp (s : State) (b : Bool) (x : Condition) : (s.raiseConditionIf b x).lamp = s.lamp :=
  State.raiseConditionIf_frame s b x .lamp (by decide)

@[simp] theorem State.raiseConditionIf_pending (s : State) (b : Bool) (x : Condition) : (s.raiseConditionIf b x).pending = s.pending :=
  State.raiseConditionIf_frame s b x .pending (by decide)

@[simp] theorem State.raiseConditionIf_params (s : State) (b : Bool) (x : Condition) : (s.raiseConditionIf b x).params = s.params :=
  State.params_congr (State.raiseConditionIf_table s b x)

@[simp] theorem State.raiseConditionIf_isEnd (s : State) (b : Bool) (x : Condition) : (s.raiseConditionIf b x).isEnd = s.isEnd :=
  State.isEnd_congr (State.raiseConditionIf_power s b x)

@[simp] theorem State.raiseConditionIf_released (s : State) (b : Bool) (x : Condition) : (s.raiseConditionIf b x).released = s.released :=
  State.released_congr (State.raiseConditionIf_power s b x)

/-! ## The drive -/

theorem State.enterRunning_frame (s : State) : State.SameOutside [.drive] s (s.enterRunning) := by
  intro b hb
  unfold State.enterRunning
  cases b <;> simp only [State.sameBlock] <;> first | (simp at hb; done) | (repeat' split) <;> simp

@[simp] theorem State.enterRunning_power (s : State) : (s.enterRunning).power = s.power :=
  State.enterRunning_frame s .power (by decide)

@[simp] theorem State.enterRunning_line (s : State) : (s.enterRunning).line = s.line :=
  State.enterRunning_frame s .line (by decide)

@[simp] theorem State.enterRunning_slot (s : State) : (s.enterRunning).slot = s.slot :=
  State.enterRunning_frame s .slot (by decide)

@[simp] theorem State.enterRunning_ctrl (s : State) : (s.enterRunning).ctrl = s.ctrl :=
  State.enterRunning_frame s .ctrl (by decide)

@[simp] theorem State.enterRunning_demand (s : State) : (s.enterRunning).demand = s.demand :=
  State.enterRunning_frame s .demand (by decide)

@[simp] theorem State.enterRunning_joint (s : State) : (s.enterRunning).joint = s.joint :=
  State.enterRunning_frame s .joint (by decide)

@[simp] theorem State.enterRunning_wheel (s : State) : (s.enterRunning).wheel = s.wheel :=
  State.enterRunning_frame s .wheel (by decide)

@[simp] theorem State.enterRunning_table (s : State) : (s.enterRunning).table = s.table :=
  State.enterRunning_frame s .table (by decide)

@[simp] theorem State.enterRunning_events (s : State) : (s.enterRunning).events = s.events :=
  State.enterRunning_frame s .events (by decide)

@[simp] theorem State.enterRunning_inputs (s : State) : (s.enterRunning).inputs = s.inputs :=
  State.enterRunning_frame s .inputs (by decide)

@[simp] theorem State.enterRunning_lamp (s : State) : (s.enterRunning).lamp = s.lamp :=
  State.enterRunning_frame s .lamp (by decide)

@[simp] theorem State.enterRunning_pending (s : State) : (s.enterRunning).pending = s.pending :=
  State.enterRunning_frame s .pending (by decide)

@[simp] theorem State.enterRunning_params (s : State) : (s.enterRunning).params = s.params :=
  State.params_congr (State.enterRunning_table s)

@[simp] theorem State.enterRunning_isEnd (s : State) : (s.enterRunning).isEnd = s.isEnd :=
  State.isEnd_congr (State.enterRunning_power s)

@[simp] theorem State.enterRunning_released (s : State) : (s.enterRunning).released = s.released :=
  State.released_congr (State.enterRunning_power s)

theorem State.beginStarting_frame (s : State) : State.SameOutside [.drive] s (s.beginStarting) := by
  intro b hb
  unfold State.beginStarting
  cases b <;> simp only [State.sameBlock] <;> first | (simp at hb; done) | simp

@[simp] theorem State.beginStarting_power (s : State) : (s.beginStarting).power = s.power :=
  State.beginStarting_frame s .power (by decide)

@[simp] theorem State.beginStarting_line (s : State) : (s.beginStarting).line = s.line :=
  State.beginStarting_frame s .line (by decide)

@[simp] theorem State.beginStarting_slot (s : State) : (s.beginStarting).slot = s.slot :=
  State.beginStarting_frame s .slot (by decide)

@[simp] theorem State.beginStarting_ctrl (s : State) : (s.beginStarting).ctrl = s.ctrl :=
  State.beginStarting_frame s .ctrl (by decide)

@[simp] theorem State.beginStarting_demand (s : State) : (s.beginStarting).demand = s.demand :=
  State.beginStarting_frame s .demand (by decide)

@[simp] theorem State.beginStarting_joint (s : State) : (s.beginStarting).joint = s.joint :=
  State.beginStarting_frame s .joint (by decide)

@[simp] theorem State.beginStarting_wheel (s : State) : (s.beginStarting).wheel = s.wheel :=
  State.beginStarting_frame s .wheel (by decide)

@[simp] theorem State.beginStarting_table (s : State) : (s.beginStarting).table = s.table :=
  State.beginStarting_frame s .table (by decide)

@[simp] theorem State.beginStarting_events (s : State) : (s.beginStarting).events = s.events :=
  State.beginStarting_frame s .events (by decide)

@[simp] theorem State.beginStarting_inputs (s : State) : (s.beginStarting).inputs = s.inputs :=
  State.beginStarting_frame s .inputs (by decide)

@[simp] theorem State.beginStarting_lamp (s : State) : (s.beginStarting).lamp = s.lamp :=
  State.beginStarting_frame s .lamp (by decide)

@[simp] theorem State.beginStarting_pending (s : State) : (s.beginStarting).pending = s.pending :=
  State.beginStarting_frame s .pending (by decide)

@[simp] theorem State.beginStarting_params (s : State) : (s.beginStarting).params = s.params :=
  State.params_congr (State.beginStarting_table s)

@[simp] theorem State.beginStarting_isEnd (s : State) : (s.beginStarting).isEnd = s.isEnd :=
  State.isEnd_congr (State.beginStarting_power s)

@[simp] theorem State.beginStarting_released (s : State) : (s.beginStarting).released = s.released :=
  State.released_congr (State.beginStarting_power s)

theorem State.takeReady_frame (s : State) : State.SameOutside [.drive] s (s.takeReady) := by
  intro b hb
  unfold State.takeReady
  cases b <;> simp only [State.sameBlock] <;> first | (simp at hb; done) | (repeat' split) <;> simp

@[simp] theorem State.takeReady_power (s : State) : (s.takeReady).power = s.power :=
  State.takeReady_frame s .power (by decide)

@[simp] theorem State.takeReady_line (s : State) : (s.takeReady).line = s.line :=
  State.takeReady_frame s .line (by decide)

@[simp] theorem State.takeReady_slot (s : State) : (s.takeReady).slot = s.slot :=
  State.takeReady_frame s .slot (by decide)

@[simp] theorem State.takeReady_ctrl (s : State) : (s.takeReady).ctrl = s.ctrl :=
  State.takeReady_frame s .ctrl (by decide)

@[simp] theorem State.takeReady_demand (s : State) : (s.takeReady).demand = s.demand :=
  State.takeReady_frame s .demand (by decide)

@[simp] theorem State.takeReady_joint (s : State) : (s.takeReady).joint = s.joint :=
  State.takeReady_frame s .joint (by decide)

@[simp] theorem State.takeReady_wheel (s : State) : (s.takeReady).wheel = s.wheel :=
  State.takeReady_frame s .wheel (by decide)

@[simp] theorem State.takeReady_table (s : State) : (s.takeReady).table = s.table :=
  State.takeReady_frame s .table (by decide)

@[simp] theorem State.takeReady_events (s : State) : (s.takeReady).events = s.events :=
  State.takeReady_frame s .events (by decide)

@[simp] theorem State.takeReady_inputs (s : State) : (s.takeReady).inputs = s.inputs :=
  State.takeReady_frame s .inputs (by decide)

@[simp] theorem State.takeReady_lamp (s : State) : (s.takeReady).lamp = s.lamp :=
  State.takeReady_frame s .lamp (by decide)

@[simp] theorem State.takeReady_pending (s : State) : (s.takeReady).pending = s.pending :=
  State.takeReady_frame s .pending (by decide)

@[simp] theorem State.takeReady_params (s : State) : (s.takeReady).params = s.params :=
  State.params_congr (State.takeReady_table s)

@[simp] theorem State.takeReady_isEnd (s : State) : (s.takeReady).isEnd = s.isEnd :=
  State.isEnd_congr (State.takeReady_power s)

@[simp] theorem State.takeReady_released (s : State) : (s.takeReady).released = s.released :=
  State.released_congr (State.takeReady_power s)

theorem State.startDutyPeriod_frame (s : State) : State.SameOutside [.demand, .drive, .events] s (s.startDutyPeriod) := by
  intro b hb
  unfold State.startDutyPeriod
  cases b <;> simp only [State.sameBlock] <;> first | (simp at hb; done) | (repeat' split) <;> simp

@[simp] theorem State.startDutyPeriod_power (s : State) : (s.startDutyPeriod).power = s.power :=
  State.startDutyPeriod_frame s .power (by decide)

@[simp] theorem State.startDutyPeriod_line (s : State) : (s.startDutyPeriod).line = s.line :=
  State.startDutyPeriod_frame s .line (by decide)

@[simp] theorem State.startDutyPeriod_slot (s : State) : (s.startDutyPeriod).slot = s.slot :=
  State.startDutyPeriod_frame s .slot (by decide)

@[simp] theorem State.startDutyPeriod_ctrl (s : State) : (s.startDutyPeriod).ctrl = s.ctrl :=
  State.startDutyPeriod_frame s .ctrl (by decide)

@[simp] theorem State.startDutyPeriod_joint (s : State) : (s.startDutyPeriod).joint = s.joint :=
  State.startDutyPeriod_frame s .joint (by decide)

@[simp] theorem State.startDutyPeriod_wheel (s : State) : (s.startDutyPeriod).wheel = s.wheel :=
  State.startDutyPeriod_frame s .wheel (by decide)

@[simp] theorem State.startDutyPeriod_table (s : State) : (s.startDutyPeriod).table = s.table :=
  State.startDutyPeriod_frame s .table (by decide)

@[simp] theorem State.startDutyPeriod_inputs (s : State) : (s.startDutyPeriod).inputs = s.inputs :=
  State.startDutyPeriod_frame s .inputs (by decide)

@[simp] theorem State.startDutyPeriod_lamp (s : State) : (s.startDutyPeriod).lamp = s.lamp :=
  State.startDutyPeriod_frame s .lamp (by decide)

@[simp] theorem State.startDutyPeriod_pending (s : State) : (s.startDutyPeriod).pending = s.pending :=
  State.startDutyPeriod_frame s .pending (by decide)

@[simp] theorem State.startDutyPeriod_params (s : State) : (s.startDutyPeriod).params = s.params :=
  State.params_congr (State.startDutyPeriod_table s)

@[simp] theorem State.startDutyPeriod_isEnd (s : State) : (s.startDutyPeriod).isEnd = s.isEnd :=
  State.isEnd_congr (State.startDutyPeriod_power s)

@[simp] theorem State.startDutyPeriod_released (s : State) : (s.startDutyPeriod).released = s.released :=
  State.released_congr (State.startDutyPeriod_power s)

theorem State.startRate_frame (s : State) : State.SameOutside [.drive] s (s.startRate) := by
  intro b hb
  unfold State.startRate
  cases b <;> simp only [State.sameBlock] <;> first | (simp at hb; done) | simp

@[simp] theorem State.startRate_power (s : State) : (s.startRate).power = s.power :=
  State.startRate_frame s .power (by decide)

@[simp] theorem State.startRate_line (s : State) : (s.startRate).line = s.line :=
  State.startRate_frame s .line (by decide)

@[simp] theorem State.startRate_slot (s : State) : (s.startRate).slot = s.slot :=
  State.startRate_frame s .slot (by decide)

@[simp] theorem State.startRate_ctrl (s : State) : (s.startRate).ctrl = s.ctrl :=
  State.startRate_frame s .ctrl (by decide)

@[simp] theorem State.startRate_demand (s : State) : (s.startRate).demand = s.demand :=
  State.startRate_frame s .demand (by decide)

@[simp] theorem State.startRate_joint (s : State) : (s.startRate).joint = s.joint :=
  State.startRate_frame s .joint (by decide)

@[simp] theorem State.startRate_wheel (s : State) : (s.startRate).wheel = s.wheel :=
  State.startRate_frame s .wheel (by decide)

@[simp] theorem State.startRate_table (s : State) : (s.startRate).table = s.table :=
  State.startRate_frame s .table (by decide)

@[simp] theorem State.startRate_events (s : State) : (s.startRate).events = s.events :=
  State.startRate_frame s .events (by decide)

@[simp] theorem State.startRate_inputs (s : State) : (s.startRate).inputs = s.inputs :=
  State.startRate_frame s .inputs (by decide)

@[simp] theorem State.startRate_lamp (s : State) : (s.startRate).lamp = s.lamp :=
  State.startRate_frame s .lamp (by decide)

@[simp] theorem State.startRate_pending (s : State) : (s.startRate).pending = s.pending :=
  State.startRate_frame s .pending (by decide)

@[simp] theorem State.startRate_params (s : State) : (s.startRate).params = s.params :=
  State.params_congr (State.startRate_table s)

@[simp] theorem State.startRate_isEnd (s : State) : (s.startRate).isEnd = s.isEnd :=
  State.isEnd_congr (State.startRate_power s)

@[simp] theorem State.startRate_released (s : State) : (s.startRate).released = s.released :=
  State.released_congr (State.startRate_power s)

theorem State.startIfDue_frame (s : State) : State.SameOutside [.demand, .drive, .events] s (s.startIfDue) := by
  intro b hb
  unfold State.startIfDue
  cases b <;> simp only [State.sameBlock] <;> first | (simp at hb; done) | (repeat' split) <;> simp

@[simp] theorem State.startIfDue_power (s : State) : (s.startIfDue).power = s.power :=
  State.startIfDue_frame s .power (by decide)

@[simp] theorem State.startIfDue_line (s : State) : (s.startIfDue).line = s.line :=
  State.startIfDue_frame s .line (by decide)

@[simp] theorem State.startIfDue_slot (s : State) : (s.startIfDue).slot = s.slot :=
  State.startIfDue_frame s .slot (by decide)

@[simp] theorem State.startIfDue_ctrl (s : State) : (s.startIfDue).ctrl = s.ctrl :=
  State.startIfDue_frame s .ctrl (by decide)

@[simp] theorem State.startIfDue_joint (s : State) : (s.startIfDue).joint = s.joint :=
  State.startIfDue_frame s .joint (by decide)

@[simp] theorem State.startIfDue_wheel (s : State) : (s.startIfDue).wheel = s.wheel :=
  State.startIfDue_frame s .wheel (by decide)

@[simp] theorem State.startIfDue_table (s : State) : (s.startIfDue).table = s.table :=
  State.startIfDue_frame s .table (by decide)

@[simp] theorem State.startIfDue_inputs (s : State) : (s.startIfDue).inputs = s.inputs :=
  State.startIfDue_frame s .inputs (by decide)

@[simp] theorem State.startIfDue_lamp (s : State) : (s.startIfDue).lamp = s.lamp :=
  State.startIfDue_frame s .lamp (by decide)

@[simp] theorem State.startIfDue_pending (s : State) : (s.startIfDue).pending = s.pending :=
  State.startIfDue_frame s .pending (by decide)

@[simp] theorem State.startIfDue_params (s : State) : (s.startIfDue).params = s.params :=
  State.params_congr (State.startIfDue_table s)

@[simp] theorem State.startIfDue_isEnd (s : State) : (s.startIfDue).isEnd = s.isEnd :=
  State.isEnd_congr (State.startIfDue_power s)

@[simp] theorem State.startIfDue_released (s : State) : (s.startIfDue).released = s.released :=
  State.released_congr (State.startIfDue_power s)

theorem State.startJogIfDue_frame (s : State) : State.SameOutside [.drive] s (s.startJogIfDue) := by
  intro b hb
  unfold State.startJogIfDue
  cases b <;> simp only [State.sameBlock] <;> first | (simp at hb; done) | (repeat' split) <;> simp

@[simp] theorem State.startJogIfDue_power (s : State) : (s.startJogIfDue).power = s.power :=
  State.startJogIfDue_frame s .power (by decide)

@[simp] theorem State.startJogIfDue_line (s : State) : (s.startJogIfDue).line = s.line :=
  State.startJogIfDue_frame s .line (by decide)

@[simp] theorem State.startJogIfDue_slot (s : State) : (s.startJogIfDue).slot = s.slot :=
  State.startJogIfDue_frame s .slot (by decide)

@[simp] theorem State.startJogIfDue_ctrl (s : State) : (s.startJogIfDue).ctrl = s.ctrl :=
  State.startJogIfDue_frame s .ctrl (by decide)

@[simp] theorem State.startJogIfDue_demand (s : State) : (s.startJogIfDue).demand = s.demand :=
  State.startJogIfDue_frame s .demand (by decide)

@[simp] theorem State.startJogIfDue_joint (s : State) : (s.startJogIfDue).joint = s.joint :=
  State.startJogIfDue_frame s .joint (by decide)

@[simp] theorem State.startJogIfDue_wheel (s : State) : (s.startJogIfDue).wheel = s.wheel :=
  State.startJogIfDue_frame s .wheel (by decide)

@[simp] theorem State.startJogIfDue_table (s : State) : (s.startJogIfDue).table = s.table :=
  State.startJogIfDue_frame s .table (by decide)

@[simp] theorem State.startJogIfDue_events (s : State) : (s.startJogIfDue).events = s.events :=
  State.startJogIfDue_frame s .events (by decide)

@[simp] theorem State.startJogIfDue_inputs (s : State) : (s.startJogIfDue).inputs = s.inputs :=
  State.startJogIfDue_frame s .inputs (by decide)

@[simp] theorem State.startJogIfDue_lamp (s : State) : (s.startJogIfDue).lamp = s.lamp :=
  State.startJogIfDue_frame s .lamp (by decide)

@[simp] theorem State.startJogIfDue_pending (s : State) : (s.startJogIfDue).pending = s.pending :=
  State.startJogIfDue_frame s .pending (by decide)

@[simp] theorem State.startJogIfDue_params (s : State) : (s.startJogIfDue).params = s.params :=
  State.params_congr (State.startJogIfDue_table s)

@[simp] theorem State.startJogIfDue_isEnd (s : State) : (s.startJogIfDue).isEnd = s.isEnd :=
  State.isEnd_congr (State.startJogIfDue_power s)

@[simp] theorem State.startJogIfDue_released (s : State) : (s.startJogIfDue).released = s.released :=
  State.released_congr (State.startJogIfDue_power s)

theorem State.driveOff_frame (s : State) : State.SameOutside [.drive] s (s.driveOff) := by
  intro b hb
  unfold State.driveOff
  cases b <;> simp only [State.sameBlock] <;> first | (simp at hb; done) | simp

@[simp] theorem State.driveOff_power (s : State) : (s.driveOff).power = s.power :=
  State.driveOff_frame s .power (by decide)

@[simp] theorem State.driveOff_line (s : State) : (s.driveOff).line = s.line :=
  State.driveOff_frame s .line (by decide)

@[simp] theorem State.driveOff_slot (s : State) : (s.driveOff).slot = s.slot :=
  State.driveOff_frame s .slot (by decide)

@[simp] theorem State.driveOff_ctrl (s : State) : (s.driveOff).ctrl = s.ctrl :=
  State.driveOff_frame s .ctrl (by decide)

@[simp] theorem State.driveOff_demand (s : State) : (s.driveOff).demand = s.demand :=
  State.driveOff_frame s .demand (by decide)

@[simp] theorem State.driveOff_joint (s : State) : (s.driveOff).joint = s.joint :=
  State.driveOff_frame s .joint (by decide)

@[simp] theorem State.driveOff_wheel (s : State) : (s.driveOff).wheel = s.wheel :=
  State.driveOff_frame s .wheel (by decide)

@[simp] theorem State.driveOff_table (s : State) : (s.driveOff).table = s.table :=
  State.driveOff_frame s .table (by decide)

@[simp] theorem State.driveOff_events (s : State) : (s.driveOff).events = s.events :=
  State.driveOff_frame s .events (by decide)

@[simp] theorem State.driveOff_inputs (s : State) : (s.driveOff).inputs = s.inputs :=
  State.driveOff_frame s .inputs (by decide)

@[simp] theorem State.driveOff_lamp (s : State) : (s.driveOff).lamp = s.lamp :=
  State.driveOff_frame s .lamp (by decide)

@[simp] theorem State.driveOff_pending (s : State) : (s.driveOff).pending = s.pending :=
  State.driveOff_frame s .pending (by decide)

@[simp] theorem State.driveOff_params (s : State) : (s.driveOff).params = s.params :=
  State.params_congr (State.driveOff_table s)

@[simp] theorem State.driveOff_isEnd (s : State) : (s.driveOff).isEnd = s.isEnd :=
  State.isEnd_congr (State.driveOff_power s)

@[simp] theorem State.driveOff_released (s : State) : (s.driveOff).released = s.released :=
  State.released_congr (State.driveOff_power s)

theorem State.arriveOff_frame (s : State) : State.SameOutside [.demand, .drive, .events] s (s.arriveOff) := by
  intro b hb
  unfold State.arriveOff
  cases b <;> simp only [State.sameBlock] <;> first | (simp at hb; done) | simp

@[simp] theorem State.arriveOff_power (s : State) : (s.arriveOff).power = s.power :=
  State.arriveOff_frame s .power (by decide)

@[simp] theorem State.arriveOff_line (s : State) : (s.arriveOff).line = s.line :=
  State.arriveOff_frame s .line (by decide)

@[simp] theorem State.arriveOff_slot (s : State) : (s.arriveOff).slot = s.slot :=
  State.arriveOff_frame s .slot (by decide)

@[simp] theorem State.arriveOff_ctrl (s : State) : (s.arriveOff).ctrl = s.ctrl :=
  State.arriveOff_frame s .ctrl (by decide)

@[simp] theorem State.arriveOff_joint (s : State) : (s.arriveOff).joint = s.joint :=
  State.arriveOff_frame s .joint (by decide)

@[simp] theorem State.arriveOff_wheel (s : State) : (s.arriveOff).wheel = s.wheel :=
  State.arriveOff_frame s .wheel (by decide)

@[simp] theorem State.arriveOff_table (s : State) : (s.arriveOff).table = s.table :=
  State.arriveOff_frame s .table (by decide)

@[simp] theorem State.arriveOff_inputs (s : State) : (s.arriveOff).inputs = s.inputs :=
  State.arriveOff_frame s .inputs (by decide)

@[simp] theorem State.arriveOff_lamp (s : State) : (s.arriveOff).lamp = s.lamp :=
  State.arriveOff_frame s .lamp (by decide)

@[simp] theorem State.arriveOff_pending (s : State) : (s.arriveOff).pending = s.pending :=
  State.arriveOff_frame s .pending (by decide)

@[simp] theorem State.arriveOff_params (s : State) : (s.arriveOff).params = s.params :=
  State.params_congr (State.arriveOff_table s)

@[simp] theorem State.arriveOff_isEnd (s : State) : (s.arriveOff).isEnd = s.isEnd :=
  State.isEnd_congr (State.arriveOff_power s)

@[simp] theorem State.arriveOff_released (s : State) : (s.arriveOff).released = s.released :=
  State.released_congr (State.arriveOff_power s)

theorem State.haltMotor_frame (s : State) : State.SameOutside [.drive] s (s.haltMotor) := by
  intro b hb
  unfold State.haltMotor
  cases b <;> simp only [State.sameBlock] <;> first | (simp at hb; done) | simp

@[simp] theorem State.haltMotor_power (s : State) : (s.haltMotor).power = s.power :=
  State.haltMotor_frame s .power (by decide)

@[simp] theorem State.haltMotor_line (s : State) : (s.haltMotor).line = s.line :=
  State.haltMotor_frame s .line (by decide)

@[simp] theorem State.haltMotor_slot (s : State) : (s.haltMotor).slot = s.slot :=
  State.haltMotor_frame s .slot (by decide)

@[simp] theorem State.haltMotor_ctrl (s : State) : (s.haltMotor).ctrl = s.ctrl :=
  State.haltMotor_frame s .ctrl (by decide)

@[simp] theorem State.haltMotor_demand (s : State) : (s.haltMotor).demand = s.demand :=
  State.haltMotor_frame s .demand (by decide)

@[simp] theorem State.haltMotor_joint (s : State) : (s.haltMotor).joint = s.joint :=
  State.haltMotor_frame s .joint (by decide)

@[simp] theorem State.haltMotor_wheel (s : State) : (s.haltMotor).wheel = s.wheel :=
  State.haltMotor_frame s .wheel (by decide)

@[simp] theorem State.haltMotor_table (s : State) : (s.haltMotor).table = s.table :=
  State.haltMotor_frame s .table (by decide)

@[simp] theorem State.haltMotor_events (s : State) : (s.haltMotor).events = s.events :=
  State.haltMotor_frame s .events (by decide)

@[simp] theorem State.haltMotor_inputs (s : State) : (s.haltMotor).inputs = s.inputs :=
  State.haltMotor_frame s .inputs (by decide)

@[simp] theorem State.haltMotor_lamp (s : State) : (s.haltMotor).lamp = s.lamp :=
  State.haltMotor_frame s .lamp (by decide)

@[simp] theorem State.haltMotor_pending (s : State) : (s.haltMotor).pending = s.pending :=
  State.haltMotor_frame s .pending (by decide)

@[simp] theorem State.haltMotor_params (s : State) : (s.haltMotor).params = s.params :=
  State.params_congr (State.haltMotor_table s)

@[simp] theorem State.haltMotor_isEnd (s : State) : (s.haltMotor).isEnd = s.isEnd :=
  State.isEnd_congr (State.haltMotor_power s)

@[simp] theorem State.haltMotor_released (s : State) : (s.haltMotor).released = s.released :=
  State.released_congr (State.haltMotor_power s)

theorem State.enterStopping_frame (s : State) : State.SameOutside [.demand, .drive, .events] s (s.enterStopping) := by
  intro b hb
  unfold State.enterStopping
  cases b <;> simp only [State.sameBlock] <;> first | (simp at hb; done) | (repeat' split) <;> simp

@[simp] theorem State.enterStopping_power (s : State) : (s.enterStopping).power = s.power :=
  State.enterStopping_frame s .power (by decide)

@[simp] theorem State.enterStopping_line (s : State) : (s.enterStopping).line = s.line :=
  State.enterStopping_frame s .line (by decide)

@[simp] theorem State.enterStopping_slot (s : State) : (s.enterStopping).slot = s.slot :=
  State.enterStopping_frame s .slot (by decide)

@[simp] theorem State.enterStopping_ctrl (s : State) : (s.enterStopping).ctrl = s.ctrl :=
  State.enterStopping_frame s .ctrl (by decide)

@[simp] theorem State.enterStopping_joint (s : State) : (s.enterStopping).joint = s.joint :=
  State.enterStopping_frame s .joint (by decide)

@[simp] theorem State.enterStopping_wheel (s : State) : (s.enterStopping).wheel = s.wheel :=
  State.enterStopping_frame s .wheel (by decide)

@[simp] theorem State.enterStopping_table (s : State) : (s.enterStopping).table = s.table :=
  State.enterStopping_frame s .table (by decide)

@[simp] theorem State.enterStopping_inputs (s : State) : (s.enterStopping).inputs = s.inputs :=
  State.enterStopping_frame s .inputs (by decide)

@[simp] theorem State.enterStopping_lamp (s : State) : (s.enterStopping).lamp = s.lamp :=
  State.enterStopping_frame s .lamp (by decide)

@[simp] theorem State.enterStopping_pending (s : State) : (s.enterStopping).pending = s.pending :=
  State.enterStopping_frame s .pending (by decide)

@[simp] theorem State.enterStopping_params (s : State) : (s.enterStopping).params = s.params :=
  State.params_congr (State.enterStopping_table s)

@[simp] theorem State.enterStopping_isEnd (s : State) : (s.enterStopping).isEnd = s.isEnd :=
  State.isEnd_congr (State.enterStopping_power s)

@[simp] theorem State.enterStopping_released (s : State) : (s.enterStopping).released = s.released :=
  State.released_congr (State.enterStopping_power s)

theorem State.driveStop_frame (s : State) : State.SameOutside [.demand, .drive, .events] s (s.driveStop) := by
  intro b hb
  unfold State.driveStop
  cases b <;> simp only [State.sameBlock] <;> first | (simp at hb; done) | (repeat' split) <;> simp

@[simp] theorem State.driveStop_power (s : State) : (s.driveStop).power = s.power :=
  State.driveStop_frame s .power (by decide)

@[simp] theorem State.driveStop_line (s : State) : (s.driveStop).line = s.line :=
  State.driveStop_frame s .line (by decide)

@[simp] theorem State.driveStop_slot (s : State) : (s.driveStop).slot = s.slot :=
  State.driveStop_frame s .slot (by decide)

@[simp] theorem State.driveStop_ctrl (s : State) : (s.driveStop).ctrl = s.ctrl :=
  State.driveStop_frame s .ctrl (by decide)

@[simp] theorem State.driveStop_joint (s : State) : (s.driveStop).joint = s.joint :=
  State.driveStop_frame s .joint (by decide)

@[simp] theorem State.driveStop_wheel (s : State) : (s.driveStop).wheel = s.wheel :=
  State.driveStop_frame s .wheel (by decide)

@[simp] theorem State.driveStop_table (s : State) : (s.driveStop).table = s.table :=
  State.driveStop_frame s .table (by decide)

@[simp] theorem State.driveStop_inputs (s : State) : (s.driveStop).inputs = s.inputs :=
  State.driveStop_frame s .inputs (by decide)

@[simp] theorem State.driveStop_lamp (s : State) : (s.driveStop).lamp = s.lamp :=
  State.driveStop_frame s .lamp (by decide)

@[simp] theorem State.driveStop_pending (s : State) : (s.driveStop).pending = s.pending :=
  State.driveStop_frame s .pending (by decide)

@[simp] theorem State.driveStop_params (s : State) : (s.driveStop).params = s.params :=
  State.params_congr (State.driveStop_table s)

@[simp] theorem State.driveStop_isEnd (s : State) : (s.driveStop).isEnd = s.isEnd :=
  State.isEnd_congr (State.driveStop_power s)

@[simp] theorem State.driveStop_released (s : State) : (s.driveStop).released = s.released :=
  State.released_congr (State.driveStop_power s)

theorem State.endOnTime_frame (s : State) : State.SameOutside [.drive] s (s.endOnTime) := by
  intro b hb
  unfold State.endOnTime
  cases b <;> simp only [State.sameBlock] <;> first | (simp at hb; done) | simp

@[simp] theorem State.endOnTime_power (s : State) : (s.endOnTime).power = s.power :=
  State.endOnTime_frame s .power (by decide)

@[simp] theorem State.endOnTime_line (s : State) : (s.endOnTime).line = s.line :=
  State.endOnTime_frame s .line (by decide)

@[simp] theorem State.endOnTime_slot (s : State) : (s.endOnTime).slot = s.slot :=
  State.endOnTime_frame s .slot (by decide)

@[simp] theorem State.endOnTime_ctrl (s : State) : (s.endOnTime).ctrl = s.ctrl :=
  State.endOnTime_frame s .ctrl (by decide)

@[simp] theorem State.endOnTime_demand (s : State) : (s.endOnTime).demand = s.demand :=
  State.endOnTime_frame s .demand (by decide)

@[simp] theorem State.endOnTime_joint (s : State) : (s.endOnTime).joint = s.joint :=
  State.endOnTime_frame s .joint (by decide)

@[simp] theorem State.endOnTime_wheel (s : State) : (s.endOnTime).wheel = s.wheel :=
  State.endOnTime_frame s .wheel (by decide)

@[simp] theorem State.endOnTime_table (s : State) : (s.endOnTime).table = s.table :=
  State.endOnTime_frame s .table (by decide)

@[simp] theorem State.endOnTime_events (s : State) : (s.endOnTime).events = s.events :=
  State.endOnTime_frame s .events (by decide)

@[simp] theorem State.endOnTime_inputs (s : State) : (s.endOnTime).inputs = s.inputs :=
  State.endOnTime_frame s .inputs (by decide)

@[simp] theorem State.endOnTime_lamp (s : State) : (s.endOnTime).lamp = s.lamp :=
  State.endOnTime_frame s .lamp (by decide)

@[simp] theorem State.endOnTime_pending (s : State) : (s.endOnTime).pending = s.pending :=
  State.endOnTime_frame s .pending (by decide)

@[simp] theorem State.endOnTime_params (s : State) : (s.endOnTime).params = s.params :=
  State.params_congr (State.endOnTime_table s)

@[simp] theorem State.endOnTime_isEnd (s : State) : (s.endOnTime).isEnd = s.isEnd :=
  State.isEnd_congr (State.endOnTime_power s)

@[simp] theorem State.endOnTime_released (s : State) : (s.endOnTime).released = s.released :=
  State.released_congr (State.endOnTime_power s)

theorem State.endJog_frame (s : State) : State.SameOutside [.demand, .drive, .events] s (s.endJog) := by
  intro b hb
  unfold State.endJog
  cases b <;> simp only [State.sameBlock] <;> first | (simp at hb; done) | (repeat' split) <;> simp

@[simp] theorem State.endJog_power (s : State) : (s.endJog).power = s.power :=
  State.endJog_frame s .power (by decide)

@[simp] theorem State.endJog_line (s : State) : (s.endJog).line = s.line :=
  State.endJog_frame s .line (by decide)

@[simp] theorem State.endJog_slot (s : State) : (s.endJog).slot = s.slot :=
  State.endJog_frame s .slot (by decide)

@[simp] theorem State.endJog_ctrl (s : State) : (s.endJog).ctrl = s.ctrl :=
  State.endJog_frame s .ctrl (by decide)

@[simp] theorem State.endJog_joint (s : State) : (s.endJog).joint = s.joint :=
  State.endJog_frame s .joint (by decide)

@[simp] theorem State.endJog_wheel (s : State) : (s.endJog).wheel = s.wheel :=
  State.endJog_frame s .wheel (by decide)

@[simp] theorem State.endJog_table (s : State) : (s.endJog).table = s.table :=
  State.endJog_frame s .table (by decide)

@[simp] theorem State.endJog_inputs (s : State) : (s.endJog).inputs = s.inputs :=
  State.endJog_frame s .inputs (by decide)

@[simp] theorem State.endJog_lamp (s : State) : (s.endJog).lamp = s.lamp :=
  State.endJog_frame s .lamp (by decide)

@[simp] theorem State.endJog_pending (s : State) : (s.endJog).pending = s.pending :=
  State.endJog_frame s .pending (by decide)

@[simp] theorem State.endJog_params (s : State) : (s.endJog).params = s.params :=
  State.params_congr (State.endJog_table s)

@[simp] theorem State.endJog_isEnd (s : State) : (s.endJog).isEnd = s.isEnd :=
  State.isEnd_congr (State.endJog_power s)

@[simp] theorem State.endJog_released (s : State) : (s.endJog).released = s.released :=
  State.released_congr (State.endJog_power s)

/-! ## Node states and trips -/

theorem State.withNode_frame (s : State) (n : NodeState) : State.SameOutside [.ctrl] s (s.withNode n) := by
  intro b hb
  unfold State.withNode
  cases b <;> simp only [State.sameBlock] <;> first | (simp at hb; done) | simp

@[simp] theorem State.withNode_power (s : State) (n : NodeState) : (s.withNode n).power = s.power :=
  State.withNode_frame s n .power (by decide)

@[simp] theorem State.withNode_line (s : State) (n : NodeState) : (s.withNode n).line = s.line :=
  State.withNode_frame s n .line (by decide)

@[simp] theorem State.withNode_slot (s : State) (n : NodeState) : (s.withNode n).slot = s.slot :=
  State.withNode_frame s n .slot (by decide)

@[simp] theorem State.withNode_demand (s : State) (n : NodeState) : (s.withNode n).demand = s.demand :=
  State.withNode_frame s n .demand (by decide)

@[simp] theorem State.withNode_joint (s : State) (n : NodeState) : (s.withNode n).joint = s.joint :=
  State.withNode_frame s n .joint (by decide)

@[simp] theorem State.withNode_wheel (s : State) (n : NodeState) : (s.withNode n).wheel = s.wheel :=
  State.withNode_frame s n .wheel (by decide)

@[simp] theorem State.withNode_drive (s : State) (n : NodeState) : (s.withNode n).drive = s.drive :=
  State.withNode_frame s n .drive (by decide)

@[simp] theorem State.withNode_table (s : State) (n : NodeState) : (s.withNode n).table = s.table :=
  State.withNode_frame s n .table (by decide)

@[simp] theorem State.withNode_events (s : State) (n : NodeState) : (s.withNode n).events = s.events :=
  State.withNode_frame s n .events (by decide)

@[simp] theorem State.withNode_inputs (s : State) (n : NodeState) : (s.withNode n).inputs = s.inputs :=
  State.withNode_frame s n .inputs (by decide)

@[simp] theorem State.withNode_lamp (s : State) (n : NodeState) : (s.withNode n).lamp = s.lamp :=
  State.withNode_frame s n .lamp (by decide)

@[simp] theorem State.withNode_pending (s : State) (n : NodeState) : (s.withNode n).pending = s.pending :=
  State.withNode_frame s n .pending (by decide)

@[simp] theorem State.withNode_params (s : State) (n : NodeState) : (s.withNode n).params = s.params :=
  State.params_congr (State.withNode_table s n)

@[simp] theorem State.withNode_isEnd (s : State) (n : NodeState) : (s.withNode n).isEnd = s.isEnd :=
  State.isEnd_congr (State.withNode_power s n)

@[simp] theorem State.withNode_released (s : State) (n : NodeState) : (s.withNode n).released = s.released :=
  State.released_congr (State.withNode_power s n)

theorem State.dropDemand_frame (s : State) : State.SameOutside [.demand] s (s.dropDemand) := by
  intro b hb
  unfold State.dropDemand
  cases b <;> simp only [State.sameBlock] <;> first | (simp at hb; done) | simp

@[simp] theorem State.dropDemand_power (s : State) : (s.dropDemand).power = s.power :=
  State.dropDemand_frame s .power (by decide)

@[simp] theorem State.dropDemand_line (s : State) : (s.dropDemand).line = s.line :=
  State.dropDemand_frame s .line (by decide)

@[simp] theorem State.dropDemand_slot (s : State) : (s.dropDemand).slot = s.slot :=
  State.dropDemand_frame s .slot (by decide)

@[simp] theorem State.dropDemand_ctrl (s : State) : (s.dropDemand).ctrl = s.ctrl :=
  State.dropDemand_frame s .ctrl (by decide)

@[simp] theorem State.dropDemand_joint (s : State) : (s.dropDemand).joint = s.joint :=
  State.dropDemand_frame s .joint (by decide)

@[simp] theorem State.dropDemand_wheel (s : State) : (s.dropDemand).wheel = s.wheel :=
  State.dropDemand_frame s .wheel (by decide)

@[simp] theorem State.dropDemand_drive (s : State) : (s.dropDemand).drive = s.drive :=
  State.dropDemand_frame s .drive (by decide)

@[simp] theorem State.dropDemand_table (s : State) : (s.dropDemand).table = s.table :=
  State.dropDemand_frame s .table (by decide)

@[simp] theorem State.dropDemand_events (s : State) : (s.dropDemand).events = s.events :=
  State.dropDemand_frame s .events (by decide)

@[simp] theorem State.dropDemand_inputs (s : State) : (s.dropDemand).inputs = s.inputs :=
  State.dropDemand_frame s .inputs (by decide)

@[simp] theorem State.dropDemand_lamp (s : State) : (s.dropDemand).lamp = s.lamp :=
  State.dropDemand_frame s .lamp (by decide)

@[simp] theorem State.dropDemand_pending (s : State) : (s.dropDemand).pending = s.pending :=
  State.dropDemand_frame s .pending (by decide)

@[simp] theorem State.dropDemand_params (s : State) : (s.dropDemand).params = s.params :=
  State.params_congr (State.dropDemand_table s)

@[simp] theorem State.dropDemand_isEnd (s : State) : (s.dropDemand).isEnd = s.isEnd :=
  State.isEnd_congr (State.dropDemand_power s)

@[simp] theorem State.dropDemand_released (s : State) : (s.dropDemand).released = s.released :=
  State.released_congr (State.dropDemand_power s)

theorem State.noteLocalEntry_frame (s : State) : State.SameOutside [.drive, .events] s (s.noteLocalEntry) := by
  intro b hb
  unfold State.noteLocalEntry
  cases b <;> simp only [State.sameBlock] <;> first | (simp at hb; done) | simp

@[simp] theorem State.noteLocalEntry_power (s : State) : (s.noteLocalEntry).power = s.power :=
  State.noteLocalEntry_frame s .power (by decide)

@[simp] theorem State.noteLocalEntry_line (s : State) : (s.noteLocalEntry).line = s.line :=
  State.noteLocalEntry_frame s .line (by decide)

@[simp] theorem State.noteLocalEntry_slot (s : State) : (s.noteLocalEntry).slot = s.slot :=
  State.noteLocalEntry_frame s .slot (by decide)

@[simp] theorem State.noteLocalEntry_ctrl (s : State) : (s.noteLocalEntry).ctrl = s.ctrl :=
  State.noteLocalEntry_frame s .ctrl (by decide)

@[simp] theorem State.noteLocalEntry_demand (s : State) : (s.noteLocalEntry).demand = s.demand :=
  State.noteLocalEntry_frame s .demand (by decide)

@[simp] theorem State.noteLocalEntry_joint (s : State) : (s.noteLocalEntry).joint = s.joint :=
  State.noteLocalEntry_frame s .joint (by decide)

@[simp] theorem State.noteLocalEntry_wheel (s : State) : (s.noteLocalEntry).wheel = s.wheel :=
  State.noteLocalEntry_frame s .wheel (by decide)

@[simp] theorem State.noteLocalEntry_table (s : State) : (s.noteLocalEntry).table = s.table :=
  State.noteLocalEntry_frame s .table (by decide)

@[simp] theorem State.noteLocalEntry_inputs (s : State) : (s.noteLocalEntry).inputs = s.inputs :=
  State.noteLocalEntry_frame s .inputs (by decide)

@[simp] theorem State.noteLocalEntry_lamp (s : State) : (s.noteLocalEntry).lamp = s.lamp :=
  State.noteLocalEntry_frame s .lamp (by decide)

@[simp] theorem State.noteLocalEntry_pending (s : State) : (s.noteLocalEntry).pending = s.pending :=
  State.noteLocalEntry_frame s .pending (by decide)

@[simp] theorem State.noteLocalEntry_params (s : State) : (s.noteLocalEntry).params = s.params :=
  State.params_congr (State.noteLocalEntry_table s)

@[simp] theorem State.noteLocalEntry_isEnd (s : State) : (s.noteLocalEntry).isEnd = s.isEnd :=
  State.isEnd_congr (State.noteLocalEntry_power s)

@[simp] theorem State.noteLocalEntry_released (s : State) : (s.noteLocalEntry).released = s.released :=
  State.released_congr (State.noteLocalEntry_power s)

theorem State.moveTo_frame (s : State) (n : NodeState) : State.SameOutside [.ctrl, .demand, .drive, .events] s (s.moveTo n) := by
  intro b hb
  unfold State.moveTo
  cases b <;> simp only [State.sameBlock] <;> first | (simp at hb; done) | (repeat' split) <;> simp

@[simp] theorem State.moveTo_power (s : State) (n : NodeState) : (s.moveTo n).power = s.power :=
  State.moveTo_frame s n .power (by decide)

@[simp] theorem State.moveTo_line (s : State) (n : NodeState) : (s.moveTo n).line = s.line :=
  State.moveTo_frame s n .line (by decide)

@[simp] theorem State.moveTo_slot (s : State) (n : NodeState) : (s.moveTo n).slot = s.slot :=
  State.moveTo_frame s n .slot (by decide)

@[simp] theorem State.moveTo_joint (s : State) (n : NodeState) : (s.moveTo n).joint = s.joint :=
  State.moveTo_frame s n .joint (by decide)

@[simp] theorem State.moveTo_wheel (s : State) (n : NodeState) : (s.moveTo n).wheel = s.wheel :=
  State.moveTo_frame s n .wheel (by decide)

@[simp] theorem State.moveTo_table (s : State) (n : NodeState) : (s.moveTo n).table = s.table :=
  State.moveTo_frame s n .table (by decide)

@[simp] theorem State.moveTo_inputs (s : State) (n : NodeState) : (s.moveTo n).inputs = s.inputs :=
  State.moveTo_frame s n .inputs (by decide)

@[simp] theorem State.moveTo_lamp (s : State) (n : NodeState) : (s.moveTo n).lamp = s.lamp :=
  State.moveTo_frame s n .lamp (by decide)

@[simp] theorem State.moveTo_pending (s : State) (n : NodeState) : (s.moveTo n).pending = s.pending :=
  State.moveTo_frame s n .pending (by decide)

@[simp] theorem State.moveTo_params (s : State) (n : NodeState) : (s.moveTo n).params = s.params :=
  State.params_congr (State.moveTo_table s n)

@[simp] theorem State.moveTo_isEnd (s : State) (n : NodeState) : (s.moveTo n).isEnd = s.isEnd :=
  State.isEnd_congr (State.moveTo_power s n)

@[simp] theorem State.moveTo_released (s : State) (n : NodeState) : (s.moveTo n).released = s.released :=
  State.released_congr (State.moveTo_power s n)

theorem State.withTrip_frame (s : State) (r : Option TripRecord) : State.SameOutside [.ctrl] s (s.withTrip r) := by
  intro b hb
  unfold State.withTrip
  cases b <;> simp only [State.sameBlock] <;> first | (simp at hb; done) | simp

@[simp] theorem State.withTrip_power (s : State) (r : Option TripRecord) : (s.withTrip r).power = s.power :=
  State.withTrip_frame s r .power (by decide)

@[simp] theorem State.withTrip_line (s : State) (r : Option TripRecord) : (s.withTrip r).line = s.line :=
  State.withTrip_frame s r .line (by decide)

@[simp] theorem State.withTrip_slot (s : State) (r : Option TripRecord) : (s.withTrip r).slot = s.slot :=
  State.withTrip_frame s r .slot (by decide)

@[simp] theorem State.withTrip_demand (s : State) (r : Option TripRecord) : (s.withTrip r).demand = s.demand :=
  State.withTrip_frame s r .demand (by decide)

@[simp] theorem State.withTrip_joint (s : State) (r : Option TripRecord) : (s.withTrip r).joint = s.joint :=
  State.withTrip_frame s r .joint (by decide)

@[simp] theorem State.withTrip_wheel (s : State) (r : Option TripRecord) : (s.withTrip r).wheel = s.wheel :=
  State.withTrip_frame s r .wheel (by decide)

@[simp] theorem State.withTrip_drive (s : State) (r : Option TripRecord) : (s.withTrip r).drive = s.drive :=
  State.withTrip_frame s r .drive (by decide)

@[simp] theorem State.withTrip_table (s : State) (r : Option TripRecord) : (s.withTrip r).table = s.table :=
  State.withTrip_frame s r .table (by decide)

@[simp] theorem State.withTrip_events (s : State) (r : Option TripRecord) : (s.withTrip r).events = s.events :=
  State.withTrip_frame s r .events (by decide)

@[simp] theorem State.withTrip_inputs (s : State) (r : Option TripRecord) : (s.withTrip r).inputs = s.inputs :=
  State.withTrip_frame s r .inputs (by decide)

@[simp] theorem State.withTrip_lamp (s : State) (r : Option TripRecord) : (s.withTrip r).lamp = s.lamp :=
  State.withTrip_frame s r .lamp (by decide)

@[simp] theorem State.withTrip_pending (s : State) (r : Option TripRecord) : (s.withTrip r).pending = s.pending :=
  State.withTrip_frame s r .pending (by decide)

@[simp] theorem State.withTrip_params (s : State) (r : Option TripRecord) : (s.withTrip r).params = s.params :=
  State.params_congr (State.withTrip_table s r)

@[simp] theorem State.withTrip_isEnd (s : State) (r : Option TripRecord) : (s.withTrip r).isEnd = s.isEnd :=
  State.isEnd_congr (State.withTrip_power s r)

@[simp] theorem State.withTrip_released (s : State) (r : Option TripRecord) : (s.withTrip r).released = s.released :=
  State.released_congr (State.withTrip_power s r)

theorem State.tripRequest_frame (s : State) (cause : TripCause) : State.SameOutside [.ctrl, .demand, .drive, .events] s (s.tripRequest cause) := by
  intro b hb
  unfold State.tripRequest
  cases b <;> simp only [State.sameBlock] <;> first | (simp at hb; done) | (repeat' split) <;> simp

@[simp] theorem State.tripRequest_power (s : State) (cause : TripCause) : (s.tripRequest cause).power = s.power :=
  State.tripRequest_frame s cause .power (by decide)

@[simp] theorem State.tripRequest_line (s : State) (cause : TripCause) : (s.tripRequest cause).line = s.line :=
  State.tripRequest_frame s cause .line (by decide)

@[simp] theorem State.tripRequest_slot (s : State) (cause : TripCause) : (s.tripRequest cause).slot = s.slot :=
  State.tripRequest_frame s cause .slot (by decide)

@[simp] theorem State.tripRequest_joint (s : State) (cause : TripCause) : (s.tripRequest cause).joint = s.joint :=
  State.tripRequest_frame s cause .joint (by decide)

@[simp] theorem State.tripRequest_wheel (s : State) (cause : TripCause) : (s.tripRequest cause).wheel = s.wheel :=
  State.tripRequest_frame s cause .wheel (by decide)

@[simp] theorem State.tripRequest_table (s : State) (cause : TripCause) : (s.tripRequest cause).table = s.table :=
  State.tripRequest_frame s cause .table (by decide)

@[simp] theorem State.tripRequest_inputs (s : State) (cause : TripCause) : (s.tripRequest cause).inputs = s.inputs :=
  State.tripRequest_frame s cause .inputs (by decide)

@[simp] theorem State.tripRequest_lamp (s : State) (cause : TripCause) : (s.tripRequest cause).lamp = s.lamp :=
  State.tripRequest_frame s cause .lamp (by decide)

@[simp] theorem State.tripRequest_pending (s : State) (cause : TripCause) : (s.tripRequest cause).pending = s.pending :=
  State.tripRequest_frame s cause .pending (by decide)

@[simp] theorem State.tripRequest_params (s : State) (cause : TripCause) : (s.tripRequest cause).params = s.params :=
  State.params_congr (State.tripRequest_table s cause)

@[simp] theorem State.tripRequest_isEnd (s : State) (cause : TripCause) : (s.tripRequest cause).isEnd = s.isEnd :=
  State.isEnd_congr (State.tripRequest_power s cause)

@[simp] theorem State.tripRequest_released (s : State) (cause : TripCause) : (s.tripRequest cause).released = s.released :=
  State.released_congr (State.tripRequest_power s cause)

theorem State.tripRequestIf_frame (s : State) (b : Bool) (cause : TripCause) : State.SameOutside [.ctrl, .demand, .drive, .events] s (s.tripRequestIf b cause) := by
  intro b hb
  unfold State.tripRequestIf
  cases b <;> simp only [State.sameBlock] <;> first | (simp at hb; done) | (repeat' split) <;> simp

@[simp] theorem State.tripRequestIf_power (s : State) (b : Bool) (cause : TripCause) : (s.tripRequestIf b cause).power = s.power :=
  State.tripRequestIf_frame s b cause .power (by decide)

@[simp] theorem State.tripRequestIf_line (s : State) (b : Bool) (cause : TripCause) : (s.tripRequestIf b cause).line = s.line :=
  State.tripRequestIf_frame s b cause .line (by decide)

@[simp] theorem State.tripRequestIf_slot (s : State) (b : Bool) (cause : TripCause) : (s.tripRequestIf b cause).slot = s.slot :=
  State.tripRequestIf_frame s b cause .slot (by decide)

@[simp] theorem State.tripRequestIf_joint (s : State) (b : Bool) (cause : TripCause) : (s.tripRequestIf b cause).joint = s.joint :=
  State.tripRequestIf_frame s b cause .joint (by decide)

@[simp] theorem State.tripRequestIf_wheel (s : State) (b : Bool) (cause : TripCause) : (s.tripRequestIf b cause).wheel = s.wheel :=
  State.tripRequestIf_frame s b cause .wheel (by decide)

@[simp] theorem State.tripRequestIf_table (s : State) (b : Bool) (cause : TripCause) : (s.tripRequestIf b cause).table = s.table :=
  State.tripRequestIf_frame s b cause .table (by decide)

@[simp] theorem State.tripRequestIf_inputs (s : State) (b : Bool) (cause : TripCause) : (s.tripRequestIf b cause).inputs = s.inputs :=
  State.tripRequestIf_frame s b cause .inputs (by decide)

@[simp] theorem State.tripRequestIf_lamp (s : State) (b : Bool) (cause : TripCause) : (s.tripRequestIf b cause).lamp = s.lamp :=
  State.tripRequestIf_frame s b cause .lamp (by decide)

@[simp] theorem State.tripRequestIf_pending (s : State) (b : Bool) (cause : TripCause) : (s.tripRequestIf b cause).pending = s.pending :=
  State.tripRequestIf_frame s b cause .pending (by decide)

@[simp] theorem State.tripRequestIf_params (s : State) (b : Bool) (cause : TripCause) : (s.tripRequestIf b cause).params = s.params :=
  State.params_congr (State.tripRequestIf_table s b cause)

@[simp] theorem State.tripRequestIf_isEnd (s : State) (b : Bool) (cause : TripCause) : (s.tripRequestIf b cause).isEnd = s.isEnd :=
  State.isEnd_congr (State.tripRequestIf_power s b cause)

@[simp] theorem State.tripRequestIf_released (s : State) (b : Bool) (cause : TripCause) : (s.tripRequestIf b cause).released = s.released :=
  State.released_congr (State.tripRequestIf_power s b cause)

theorem State.safeRequest_frame (s : State) : State.SameOutside [.ctrl, .demand, .drive, .events] s (s.safeRequest) := by
  intro b hb
  unfold State.safeRequest
  cases b <;> simp only [State.sameBlock] <;> first | (simp at hb; done) | simp

@[simp] theorem State.safeRequest_power (s : State) : (s.safeRequest).power = s.power :=
  State.safeRequest_frame s .power (by decide)

@[simp] theorem State.safeRequest_line (s : State) : (s.safeRequest).line = s.line :=
  State.safeRequest_frame s .line (by decide)

@[simp] theorem State.safeRequest_slot (s : State) : (s.safeRequest).slot = s.slot :=
  State.safeRequest_frame s .slot (by decide)

@[simp] theorem State.safeRequest_joint (s : State) : (s.safeRequest).joint = s.joint :=
  State.safeRequest_frame s .joint (by decide)

@[simp] theorem State.safeRequest_wheel (s : State) : (s.safeRequest).wheel = s.wheel :=
  State.safeRequest_frame s .wheel (by decide)

@[simp] theorem State.safeRequest_table (s : State) : (s.safeRequest).table = s.table :=
  State.safeRequest_frame s .table (by decide)

@[simp] theorem State.safeRequest_inputs (s : State) : (s.safeRequest).inputs = s.inputs :=
  State.safeRequest_frame s .inputs (by decide)

@[simp] theorem State.safeRequest_lamp (s : State) : (s.safeRequest).lamp = s.lamp :=
  State.safeRequest_frame s .lamp (by decide)

@[simp] theorem State.safeRequest_pending (s : State) : (s.safeRequest).pending = s.pending :=
  State.safeRequest_frame s .pending (by decide)

@[simp] theorem State.safeRequest_params (s : State) : (s.safeRequest).params = s.params :=
  State.params_congr (State.safeRequest_table s)

@[simp] theorem State.safeRequest_isEnd (s : State) : (s.safeRequest).isEnd = s.isEnd :=
  State.isEnd_congr (State.safeRequest_power s)

@[simp] theorem State.safeRequest_released (s : State) : (s.safeRequest).released = s.released :=
  State.released_congr (State.safeRequest_power s)

theorem State.evaluate_frame (s : State) : State.SameOutside [.ctrl, .demand, .drive, .events] s (s.evaluate) := by
  intro b hb
  unfold State.evaluate
  cases b <;> simp only [State.sameBlock] <;> first | (simp at hb; done) | (repeat' split) <;> simp

@[simp] theorem State.evaluate_power (s : State) : (s.evaluate).power = s.power :=
  State.evaluate_frame s .power (by decide)

@[simp] theorem State.evaluate_line (s : State) : (s.evaluate).line = s.line :=
  State.evaluate_frame s .line (by decide)

@[simp] theorem State.evaluate_slot (s : State) : (s.evaluate).slot = s.slot :=
  State.evaluate_frame s .slot (by decide)

@[simp] theorem State.evaluate_joint (s : State) : (s.evaluate).joint = s.joint :=
  State.evaluate_frame s .joint (by decide)

@[simp] theorem State.evaluate_wheel (s : State) : (s.evaluate).wheel = s.wheel :=
  State.evaluate_frame s .wheel (by decide)

@[simp] theorem State.evaluate_table (s : State) : (s.evaluate).table = s.table :=
  State.evaluate_frame s .table (by decide)

@[simp] theorem State.evaluate_inputs (s : State) : (s.evaluate).inputs = s.inputs :=
  State.evaluate_frame s .inputs (by decide)

@[simp] theorem State.evaluate_lamp (s : State) : (s.evaluate).lamp = s.lamp :=
  State.evaluate_frame s .lamp (by decide)

@[simp] theorem State.evaluate_pending (s : State) : (s.evaluate).pending = s.pending :=
  State.evaluate_frame s .pending (by decide)

@[simp] theorem State.evaluate_params (s : State) : (s.evaluate).params = s.params :=
  State.params_congr (State.evaluate_table s)

@[simp] theorem State.evaluate_isEnd (s : State) : (s.evaluate).isEnd = s.isEnd :=
  State.isEnd_congr (State.evaluate_power s)

@[simp] theorem State.evaluate_released (s : State) : (s.evaluate).released = s.released :=
  State.released_congr (State.evaluate_power s)

theorem State.firstEvaluate_frame (s : State) : State.SameOutside [.ctrl, .demand, .drive, .events] s (s.firstEvaluate) := by
  intro b hb
  unfold State.firstEvaluate
  cases b <;> simp only [State.sameBlock] <;> first | (simp at hb; done) | (repeat' split) <;> simp

@[simp] theorem State.firstEvaluate_power (s : State) : (s.firstEvaluate).power = s.power :=
  State.firstEvaluate_frame s .power (by decide)

@[simp] theorem State.firstEvaluate_line (s : State) : (s.firstEvaluate).line = s.line :=
  State.firstEvaluate_frame s .line (by decide)

@[simp] theorem State.firstEvaluate_slot (s : State) : (s.firstEvaluate).slot = s.slot :=
  State.firstEvaluate_frame s .slot (by decide)

@[simp] theorem State.firstEvaluate_joint (s : State) : (s.firstEvaluate).joint = s.joint :=
  State.firstEvaluate_frame s .joint (by decide)

@[simp] theorem State.firstEvaluate_wheel (s : State) : (s.firstEvaluate).wheel = s.wheel :=
  State.firstEvaluate_frame s .wheel (by decide)

@[simp] theorem State.firstEvaluate_table (s : State) : (s.firstEvaluate).table = s.table :=
  State.firstEvaluate_frame s .table (by decide)

@[simp] theorem State.firstEvaluate_inputs (s : State) : (s.firstEvaluate).inputs = s.inputs :=
  State.firstEvaluate_frame s .inputs (by decide)

@[simp] theorem State.firstEvaluate_lamp (s : State) : (s.firstEvaluate).lamp = s.lamp :=
  State.firstEvaluate_frame s .lamp (by decide)

@[simp] theorem State.firstEvaluate_pending (s : State) : (s.firstEvaluate).pending = s.pending :=
  State.firstEvaluate_frame s .pending (by decide)

@[simp] theorem State.firstEvaluate_params (s : State) : (s.firstEvaluate).params = s.params :=
  State.params_congr (State.firstEvaluate_table s)

@[simp] theorem State.firstEvaluate_isEnd (s : State) : (s.firstEvaluate).isEnd = s.isEnd :=
  State.isEnd_congr (State.firstEvaluate_power s)

@[simp] theorem State.firstEvaluate_released (s : State) : (s.firstEvaluate).released = s.released :=
  State.released_congr (State.firstEvaluate_power s)

theorem State.setHolds_frame (s : State) (h : HoldCauses) : State.SameOutside [.ctrl, .demand, .drive, .events] s (s.setHolds h) := by
  intro b hb
  unfold State.setHolds
  cases b <;> simp only [State.sameBlock] <;> first | (simp at hb; done) | (repeat' split) <;> simp

@[simp] theorem State.setHolds_power (s : State) (h : HoldCauses) : (s.setHolds h).power = s.power :=
  State.setHolds_frame s h .power (by decide)

@[simp] theorem State.setHolds_line (s : State) (h : HoldCauses) : (s.setHolds h).line = s.line :=
  State.setHolds_frame s h .line (by decide)

@[simp] theorem State.setHolds_slot (s : State) (h : HoldCauses) : (s.setHolds h).slot = s.slot :=
  State.setHolds_frame s h .slot (by decide)

@[simp] theorem State.setHolds_joint (s : State) (h : HoldCauses) : (s.setHolds h).joint = s.joint :=
  State.setHolds_frame s h .joint (by decide)

@[simp] theorem State.setHolds_wheel (s : State) (h : HoldCauses) : (s.setHolds h).wheel = s.wheel :=
  State.setHolds_frame s h .wheel (by decide)

@[simp] theorem State.setHolds_table (s : State) (h : HoldCauses) : (s.setHolds h).table = s.table :=
  State.setHolds_frame s h .table (by decide)

@[simp] theorem State.setHolds_inputs (s : State) (h : HoldCauses) : (s.setHolds h).inputs = s.inputs :=
  State.setHolds_frame s h .inputs (by decide)

@[simp] theorem State.setHolds_lamp (s : State) (h : HoldCauses) : (s.setHolds h).lamp = s.lamp :=
  State.setHolds_frame s h .lamp (by decide)

@[simp] theorem State.setHolds_pending (s : State) (h : HoldCauses) : (s.setHolds h).pending = s.pending :=
  State.setHolds_frame s h .pending (by decide)

@[simp] theorem State.setHolds_params (s : State) (h : HoldCauses) : (s.setHolds h).params = s.params :=
  State.params_congr (State.setHolds_table s h)

@[simp] theorem State.setHolds_isEnd (s : State) (h : HoldCauses) : (s.setHolds h).isEnd = s.isEnd :=
  State.isEnd_congr (State.setHolds_power s h)

@[simp] theorem State.setHolds_released (s : State) (h : HoldCauses) : (s.setHolds h).released = s.released :=
  State.released_congr (State.setHolds_power s h)

theorem State.enterChain_frame (s : State) (opener : Bool) : State.SameOutside [.ctrl, .demand, .drive, .events] s (s.enterChain opener) := by
  intro b hb
  unfold State.enterChain
  cases b <;> simp only [State.sameBlock] <;> first | (simp at hb; done) | (repeat' split) <;> simp

@[simp] theorem State.enterChain_power (s : State) (opener : Bool) : (s.enterChain opener).power = s.power :=
  State.enterChain_frame s opener .power (by decide)

@[simp] theorem State.enterChain_line (s : State) (opener : Bool) : (s.enterChain opener).line = s.line :=
  State.enterChain_frame s opener .line (by decide)

@[simp] theorem State.enterChain_slot (s : State) (opener : Bool) : (s.enterChain opener).slot = s.slot :=
  State.enterChain_frame s opener .slot (by decide)

@[simp] theorem State.enterChain_joint (s : State) (opener : Bool) : (s.enterChain opener).joint = s.joint :=
  State.enterChain_frame s opener .joint (by decide)

@[simp] theorem State.enterChain_wheel (s : State) (opener : Bool) : (s.enterChain opener).wheel = s.wheel :=
  State.enterChain_frame s opener .wheel (by decide)

@[simp] theorem State.enterChain_table (s : State) (opener : Bool) : (s.enterChain opener).table = s.table :=
  State.enterChain_frame s opener .table (by decide)

@[simp] theorem State.enterChain_inputs (s : State) (opener : Bool) : (s.enterChain opener).inputs = s.inputs :=
  State.enterChain_frame s opener .inputs (by decide)

@[simp] theorem State.enterChain_lamp (s : State) (opener : Bool) : (s.enterChain opener).lamp = s.lamp :=
  State.enterChain_frame s opener .lamp (by decide)

@[simp] theorem State.enterChain_pending (s : State) (opener : Bool) : (s.enterChain opener).pending = s.pending :=
  State.enterChain_frame s opener .pending (by decide)

@[simp] theorem State.enterChain_params (s : State) (opener : Bool) : (s.enterChain opener).params = s.params :=
  State.params_congr (State.enterChain_table s opener)

@[simp] theorem State.enterChain_isEnd (s : State) (opener : Bool) : (s.enterChain opener).isEnd = s.isEnd :=
  State.isEnd_congr (State.enterChain_power s opener)

@[simp] theorem State.enterChain_released (s : State) (opener : Bool) : (s.enterChain opener).released = s.released :=
  State.released_congr (State.enterChain_power s opener)

theorem State.releaseChain_frame (s : State) : State.SameOutside [.ctrl, .demand, .drive, .events] s (s.releaseChain) := by
  intro b hb
  unfold State.releaseChain
  cases b <;> simp only [State.sameBlock] <;> first | (simp at hb; done) | simp

@[simp] theorem State.releaseChain_power (s : State) : (s.releaseChain).power = s.power :=
  State.releaseChain_frame s .power (by decide)

@[simp] theorem State.releaseChain_line (s : State) : (s.releaseChain).line = s.line :=
  State.releaseChain_frame s .line (by decide)

@[simp] theorem State.releaseChain_slot (s : State) : (s.releaseChain).slot = s.slot :=
  State.releaseChain_frame s .slot (by decide)

@[simp] theorem State.releaseChain_joint (s : State) : (s.releaseChain).joint = s.joint :=
  State.releaseChain_frame s .joint (by decide)

@[simp] theorem State.releaseChain_wheel (s : State) : (s.releaseChain).wheel = s.wheel :=
  State.releaseChain_frame s .wheel (by decide)

@[simp] theorem State.releaseChain_table (s : State) : (s.releaseChain).table = s.table :=
  State.releaseChain_frame s .table (by decide)

@[simp] theorem State.releaseChain_inputs (s : State) : (s.releaseChain).inputs = s.inputs :=
  State.releaseChain_frame s .inputs (by decide)

@[simp] theorem State.releaseChain_lamp (s : State) : (s.releaseChain).lamp = s.lamp :=
  State.releaseChain_frame s .lamp (by decide)

@[simp] theorem State.releaseChain_pending (s : State) : (s.releaseChain).pending = s.pending :=
  State.releaseChain_frame s .pending (by decide)

@[simp] theorem State.releaseChain_params (s : State) : (s.releaseChain).params = s.params :=
  State.params_congr (State.releaseChain_table s)

@[simp] theorem State.releaseChain_isEnd (s : State) : (s.releaseChain).isEnd = s.isEnd :=
  State.isEnd_congr (State.releaseChain_power s)

@[simp] theorem State.releaseChain_released (s : State) : (s.releaseChain).released = s.released :=
  State.released_congr (State.releaseChain_power s)

theorem State.enterStrapFault_frame (s : State) : State.SameOutside [.ctrl, .demand, .drive, .events] s (s.enterStrapFault) := by
  intro b hb
  unfold State.enterStrapFault
  cases b <;> simp only [State.sameBlock] <;> first | (simp at hb; done) | (repeat' split) <;> simp

@[simp] theorem State.enterStrapFault_power (s : State) : (s.enterStrapFault).power = s.power :=
  State.enterStrapFault_frame s .power (by decide)

@[simp] theorem State.enterStrapFault_line (s : State) : (s.enterStrapFault).line = s.line :=
  State.enterStrapFault_frame s .line (by decide)

@[simp] theorem State.enterStrapFault_slot (s : State) : (s.enterStrapFault).slot = s.slot :=
  State.enterStrapFault_frame s .slot (by decide)

@[simp] theorem State.enterStrapFault_joint (s : State) : (s.enterStrapFault).joint = s.joint :=
  State.enterStrapFault_frame s .joint (by decide)

@[simp] theorem State.enterStrapFault_wheel (s : State) : (s.enterStrapFault).wheel = s.wheel :=
  State.enterStrapFault_frame s .wheel (by decide)

@[simp] theorem State.enterStrapFault_table (s : State) : (s.enterStrapFault).table = s.table :=
  State.enterStrapFault_frame s .table (by decide)

@[simp] theorem State.enterStrapFault_inputs (s : State) : (s.enterStrapFault).inputs = s.inputs :=
  State.enterStrapFault_frame s .inputs (by decide)

@[simp] theorem State.enterStrapFault_lamp (s : State) : (s.enterStrapFault).lamp = s.lamp :=
  State.enterStrapFault_frame s .lamp (by decide)

@[simp] theorem State.enterStrapFault_pending (s : State) : (s.enterStrapFault).pending = s.pending :=
  State.enterStrapFault_frame s .pending (by decide)

@[simp] theorem State.enterStrapFault_params (s : State) : (s.enterStrapFault).params = s.params :=
  State.params_congr (State.enterStrapFault_table s)

@[simp] theorem State.enterStrapFault_isEnd (s : State) : (s.enterStrapFault).isEnd = s.isEnd :=
  State.isEnd_congr (State.enterStrapFault_power s)

@[simp] theorem State.enterStrapFault_released (s : State) : (s.enterStrapFault).released = s.released :=
  State.released_congr (State.enterStrapFault_power s)

theorem State.faultDrive_frame (s : State) : State.SameOutside [.ctrl, .demand, .drive, .events] s (s.faultDrive) := by
  intro b hb
  unfold State.faultDrive
  cases b <;> simp only [State.sameBlock] <;> first | (simp at hb; done) | simp

@[simp] theorem State.faultDrive_power (s : State) : (s.faultDrive).power = s.power :=
  State.faultDrive_frame s .power (by decide)

@[simp] theorem State.faultDrive_line (s : State) : (s.faultDrive).line = s.line :=
  State.faultDrive_frame s .line (by decide)

@[simp] theorem State.faultDrive_slot (s : State) : (s.faultDrive).slot = s.slot :=
  State.faultDrive_frame s .slot (by decide)

@[simp] theorem State.faultDrive_joint (s : State) : (s.faultDrive).joint = s.joint :=
  State.faultDrive_frame s .joint (by decide)

@[simp] theorem State.faultDrive_wheel (s : State) : (s.faultDrive).wheel = s.wheel :=
  State.faultDrive_frame s .wheel (by decide)

@[simp] theorem State.faultDrive_table (s : State) : (s.faultDrive).table = s.table :=
  State.faultDrive_frame s .table (by decide)

@[simp] theorem State.faultDrive_inputs (s : State) : (s.faultDrive).inputs = s.inputs :=
  State.faultDrive_frame s .inputs (by decide)

@[simp] theorem State.faultDrive_lamp (s : State) : (s.faultDrive).lamp = s.lamp :=
  State.faultDrive_frame s .lamp (by decide)

@[simp] theorem State.faultDrive_pending (s : State) : (s.faultDrive).pending = s.pending :=
  State.faultDrive_frame s .pending (by decide)

@[simp] theorem State.faultDrive_params (s : State) : (s.faultDrive).params = s.params :=
  State.params_congr (State.faultDrive_table s)

@[simp] theorem State.faultDrive_isEnd (s : State) : (s.faultDrive).isEnd = s.isEnd :=
  State.isEnd_congr (State.faultDrive_power s)

@[simp] theorem State.faultDrive_released (s : State) : (s.faultDrive).released = s.released :=
  State.released_congr (State.faultDrive_power s)

theorem State.raiseStall_frame (s : State) : State.SameOutside [.ctrl, .demand, .wheel, .drive, .events] s (s.raiseStall) := by
  intro b hb
  unfold State.raiseStall
  cases b <;> simp only [State.sameBlock] <;> first | (simp at hb; done) | (repeat' split) <;> simp

@[simp] theorem State.raiseStall_power (s : State) : (s.raiseStall).power = s.power :=
  State.raiseStall_frame s .power (by decide)

@[simp] theorem State.raiseStall_line (s : State) : (s.raiseStall).line = s.line :=
  State.raiseStall_frame s .line (by decide)

@[simp] theorem State.raiseStall_slot (s : State) : (s.raiseStall).slot = s.slot :=
  State.raiseStall_frame s .slot (by decide)

@[simp] theorem State.raiseStall_joint (s : State) : (s.raiseStall).joint = s.joint :=
  State.raiseStall_frame s .joint (by decide)

@[simp] theorem State.raiseStall_table (s : State) : (s.raiseStall).table = s.table :=
  State.raiseStall_frame s .table (by decide)

@[simp] theorem State.raiseStall_inputs (s : State) : (s.raiseStall).inputs = s.inputs :=
  State.raiseStall_frame s .inputs (by decide)

@[simp] theorem State.raiseStall_lamp (s : State) : (s.raiseStall).lamp = s.lamp :=
  State.raiseStall_frame s .lamp (by decide)

@[simp] theorem State.raiseStall_pending (s : State) : (s.raiseStall).pending = s.pending :=
  State.raiseStall_frame s .pending (by decide)

@[simp] theorem State.raiseStall_params (s : State) : (s.raiseStall).params = s.params :=
  State.params_congr (State.raiseStall_table s)

@[simp] theorem State.raiseStall_isEnd (s : State) : (s.raiseStall).isEnd = s.isEnd :=
  State.isEnd_congr (State.raiseStall_power s)

@[simp] theorem State.raiseStall_released (s : State) : (s.raiseStall).released = s.released :=
  State.released_congr (State.raiseStall_power s)

theorem State.stallTest_frame (s : State) : State.SameOutside [.ctrl, .demand, .wheel, .drive, .events] s (s.stallTest) := by
  intro b hb
  unfold State.stallTest
  cases b <;> simp only [State.sameBlock] <;> first | (simp at hb; done) | (repeat' split) <;> simp

@[simp] theorem State.stallTest_power (s : State) : (s.stallTest).power = s.power :=
  State.stallTest_frame s .power (by decide)

@[simp] theorem State.stallTest_line (s : State) : (s.stallTest).line = s.line :=
  State.stallTest_frame s .line (by decide)

@[simp] theorem State.stallTest_slot (s : State) : (s.stallTest).slot = s.slot :=
  State.stallTest_frame s .slot (by decide)

@[simp] theorem State.stallTest_joint (s : State) : (s.stallTest).joint = s.joint :=
  State.stallTest_frame s .joint (by decide)

@[simp] theorem State.stallTest_table (s : State) : (s.stallTest).table = s.table :=
  State.stallTest_frame s .table (by decide)

@[simp] theorem State.stallTest_inputs (s : State) : (s.stallTest).inputs = s.inputs :=
  State.stallTest_frame s .inputs (by decide)

@[simp] theorem State.stallTest_lamp (s : State) : (s.stallTest).lamp = s.lamp :=
  State.stallTest_frame s .lamp (by decide)

@[simp] theorem State.stallTest_pending (s : State) : (s.stallTest).pending = s.pending :=
  State.stallTest_frame s .pending (by decide)

@[simp] theorem State.stallTest_params (s : State) : (s.stallTest).params = s.params :=
  State.params_congr (State.stallTest_table s)

@[simp] theorem State.stallTest_isEnd (s : State) : (s.stallTest).isEnd = s.isEnd :=
  State.isEnd_congr (State.stallTest_power s)

@[simp] theorem State.stallTest_released (s : State) : (s.stallTest).released = s.released :=
  State.released_congr (State.stallTest_power s)

/-! ## Inputs -/

theorem State.safeChange_frame (s : State) (nowActive : Bool) : State.SameOutside [.ctrl, .demand, .drive, .events] s (s.safeChange nowActive) := by
  intro b hb
  unfold State.safeChange
  cases b <;> simp only [State.sameBlock] <;> first | (simp at hb; done) | (repeat' split) <;> simp

@[simp] theorem State.safeChange_power (s : State) (nowActive : Bool) : (s.safeChange nowActive).power = s.power :=
  State.safeChange_frame s nowActive .power (by decide)

@[simp] theorem State.safeChange_line (s : State) (nowActive : Bool) : (s.safeChange nowActive).line = s.line :=
  State.safeChange_frame s nowActive .line (by decide)

@[simp] theorem State.safeChange_slot (s : State) (nowActive : Bool) : (s.safeChange nowActive).slot = s.slot :=
  State.safeChange_frame s nowActive .slot (by decide)

@[simp] theorem State.safeChange_joint (s : State) (nowActive : Bool) : (s.safeChange nowActive).joint = s.joint :=
  State.safeChange_frame s nowActive .joint (by decide)

@[simp] theorem State.safeChange_wheel (s : State) (nowActive : Bool) : (s.safeChange nowActive).wheel = s.wheel :=
  State.safeChange_frame s nowActive .wheel (by decide)

@[simp] theorem State.safeChange_table (s : State) (nowActive : Bool) : (s.safeChange nowActive).table = s.table :=
  State.safeChange_frame s nowActive .table (by decide)

@[simp] theorem State.safeChange_inputs (s : State) (nowActive : Bool) : (s.safeChange nowActive).inputs = s.inputs :=
  State.safeChange_frame s nowActive .inputs (by decide)

@[simp] theorem State.safeChange_lamp (s : State) (nowActive : Bool) : (s.safeChange nowActive).lamp = s.lamp :=
  State.safeChange_frame s nowActive .lamp (by decide)

@[simp] theorem State.safeChange_pending (s : State) (nowActive : Bool) : (s.safeChange nowActive).pending = s.pending :=
  State.safeChange_frame s nowActive .pending (by decide)

@[simp] theorem State.safeChange_params (s : State) (nowActive : Bool) : (s.safeChange nowActive).params = s.params :=
  State.params_congr (State.safeChange_table s nowActive)

@[simp] theorem State.safeChange_isEnd (s : State) (nowActive : Bool) : (s.safeChange nowActive).isEnd = s.isEnd :=
  State.isEnd_congr (State.safeChange_power s nowActive)

@[simp] theorem State.safeChange_released (s : State) (nowActive : Bool) : (s.safeChange nowActive).released = s.released :=
  State.released_congr (State.safeChange_power s nowActive)

theorem State.jogChange_frame (s : State) (nowActive : Bool) : State.SameOutside [.demand, .drive, .events] s (s.jogChange nowActive) := by
  intro b hb
  unfold State.jogChange
  cases b <;> simp only [State.sameBlock] <;> first | (simp at hb; done) | (repeat' split) <;> simp

@[simp] theorem State.jogChange_power (s : State) (nowActive : Bool) : (s.jogChange nowActive).power = s.power :=
  State.jogChange_frame s nowActive .power (by decide)

@[simp] theorem State.jogChange_line (s : State) (nowActive : Bool) : (s.jogChange nowActive).line = s.line :=
  State.jogChange_frame s nowActive .line (by decide)

@[simp] theorem State.jogChange_slot (s : State) (nowActive : Bool) : (s.jogChange nowActive).slot = s.slot :=
  State.jogChange_frame s nowActive .slot (by decide)

@[simp] theorem State.jogChange_ctrl (s : State) (nowActive : Bool) : (s.jogChange nowActive).ctrl = s.ctrl :=
  State.jogChange_frame s nowActive .ctrl (by decide)

@[simp] theorem State.jogChange_joint (s : State) (nowActive : Bool) : (s.jogChange nowActive).joint = s.joint :=
  State.jogChange_frame s nowActive .joint (by decide)

@[simp] theorem State.jogChange_wheel (s : State) (nowActive : Bool) : (s.jogChange nowActive).wheel = s.wheel :=
  State.jogChange_frame s nowActive .wheel (by decide)

@[simp] theorem State.jogChange_table (s : State) (nowActive : Bool) : (s.jogChange nowActive).table = s.table :=
  State.jogChange_frame s nowActive .table (by decide)

@[simp] theorem State.jogChange_inputs (s : State) (nowActive : Bool) : (s.jogChange nowActive).inputs = s.inputs :=
  State.jogChange_frame s nowActive .inputs (by decide)

@[simp] theorem State.jogChange_lamp (s : State) (nowActive : Bool) : (s.jogChange nowActive).lamp = s.lamp :=
  State.jogChange_frame s nowActive .lamp (by decide)

@[simp] theorem State.jogChange_pending (s : State) (nowActive : Bool) : (s.jogChange nowActive).pending = s.pending :=
  State.jogChange_frame s nowActive .pending (by decide)

@[simp] theorem State.jogChange_params (s : State) (nowActive : Bool) : (s.jogChange nowActive).params = s.params :=
  State.params_congr (State.jogChange_table s nowActive)

@[simp] theorem State.jogChange_isEnd (s : State) (nowActive : Bool) : (s.jogChange nowActive).isEnd = s.isEnd :=
  State.isEnd_congr (State.jogChange_power s nowActive)

@[simp] theorem State.jogChange_released (s : State) (nowActive : Bool) : (s.jogChange nowActive).released = s.released :=
  State.released_congr (State.jogChange_power s nowActive)

theorem State.drdyChange_frame (s : State) (nowActive : Bool) : State.SameOutside [.ctrl, .demand, .drive, .events] s (s.drdyChange nowActive) := by
  intro b hb
  unfold State.drdyChange
  cases b <;> simp only [State.sameBlock] <;> first | (simp at hb; done) | (repeat' split) <;> simp

@[simp] theorem State.drdyChange_power (s : State) (nowActive : Bool) : (s.drdyChange nowActive).power = s.power :=
  State.drdyChange_frame s nowActive .power (by decide)

@[simp] theorem State.drdyChange_line (s : State) (nowActive : Bool) : (s.drdyChange nowActive).line = s.line :=
  State.drdyChange_frame s nowActive .line (by decide)

@[simp] theorem State.drdyChange_slot (s : State) (nowActive : Bool) : (s.drdyChange nowActive).slot = s.slot :=
  State.drdyChange_frame s nowActive .slot (by decide)

@[simp] theorem State.drdyChange_joint (s : State) (nowActive : Bool) : (s.drdyChange nowActive).joint = s.joint :=
  State.drdyChange_frame s nowActive .joint (by decide)

@[simp] theorem State.drdyChange_wheel (s : State) (nowActive : Bool) : (s.drdyChange nowActive).wheel = s.wheel :=
  State.drdyChange_frame s nowActive .wheel (by decide)

@[simp] theorem State.drdyChange_table (s : State) (nowActive : Bool) : (s.drdyChange nowActive).table = s.table :=
  State.drdyChange_frame s nowActive .table (by decide)

@[simp] theorem State.drdyChange_inputs (s : State) (nowActive : Bool) : (s.drdyChange nowActive).inputs = s.inputs :=
  State.drdyChange_frame s nowActive .inputs (by decide)

@[simp] theorem State.drdyChange_lamp (s : State) (nowActive : Bool) : (s.drdyChange nowActive).lamp = s.lamp :=
  State.drdyChange_frame s nowActive .lamp (by decide)

@[simp] theorem State.drdyChange_pending (s : State) (nowActive : Bool) : (s.drdyChange nowActive).pending = s.pending :=
  State.drdyChange_frame s nowActive .pending (by decide)

@[simp] theorem State.drdyChange_params (s : State) (nowActive : Bool) : (s.drdyChange nowActive).params = s.params :=
  State.params_congr (State.drdyChange_table s nowActive)

@[simp] theorem State.drdyChange_isEnd (s : State) (nowActive : Bool) : (s.drdyChange nowActive).isEnd = s.isEnd :=
  State.isEnd_congr (State.drdyChange_power s nowActive)

@[simp] theorem State.drdyChange_released (s : State) (nowActive : Bool) : (s.drdyChange nowActive).released = s.released :=
  State.released_congr (State.drdyChange_power s nowActive)

theorem State.handOver_frame (s : State) (i : InputName) (nowActive : Bool) : State.SameOutside [.ctrl, .demand, .drive, .events] s (s.handOver i nowActive) := by
  intro b hb
  unfold State.handOver
  cases b <;> simp only [State.sameBlock] <;> first | (simp at hb; done) | (repeat' split) <;> simp

@[simp] theorem State.handOver_power (s : State) (i : InputName) (nowActive : Bool) : (s.handOver i nowActive).power = s.power :=
  State.handOver_frame s i nowActive .power (by decide)

@[simp] theorem State.handOver_line (s : State) (i : InputName) (nowActive : Bool) : (s.handOver i nowActive).line = s.line :=
  State.handOver_frame s i nowActive .line (by decide)

@[simp] theorem State.handOver_slot (s : State) (i : InputName) (nowActive : Bool) : (s.handOver i nowActive).slot = s.slot :=
  State.handOver_frame s i nowActive .slot (by decide)

@[simp] theorem State.handOver_joint (s : State) (i : InputName) (nowActive : Bool) : (s.handOver i nowActive).joint = s.joint :=
  State.handOver_frame s i nowActive .joint (by decide)

@[simp] theorem State.handOver_wheel (s : State) (i : InputName) (nowActive : Bool) : (s.handOver i nowActive).wheel = s.wheel :=
  State.handOver_frame s i nowActive .wheel (by decide)

@[simp] theorem State.handOver_table (s : State) (i : InputName) (nowActive : Bool) : (s.handOver i nowActive).table = s.table :=
  State.handOver_frame s i nowActive .table (by decide)

@[simp] theorem State.handOver_inputs (s : State) (i : InputName) (nowActive : Bool) : (s.handOver i nowActive).inputs = s.inputs :=
  State.handOver_frame s i nowActive .inputs (by decide)

@[simp] theorem State.handOver_lamp (s : State) (i : InputName) (nowActive : Bool) : (s.handOver i nowActive).lamp = s.lamp :=
  State.handOver_frame s i nowActive .lamp (by decide)

@[simp] theorem State.handOver_pending (s : State) (i : InputName) (nowActive : Bool) : (s.handOver i nowActive).pending = s.pending :=
  State.handOver_frame s i nowActive .pending (by decide)

@[simp] theorem State.handOver_params (s : State) (i : InputName) (nowActive : Bool) : (s.handOver i nowActive).params = s.params :=
  State.params_congr (State.handOver_table s i nowActive)

@[simp] theorem State.handOver_isEnd (s : State) (i : InputName) (nowActive : Bool) : (s.handOver i nowActive).isEnd = s.isEnd :=
  State.isEnd_congr (State.handOver_power s i nowActive)

@[simp] theorem State.handOver_released (s : State) (i : InputName) (nowActive : Bool) : (s.handOver i nowActive).released = s.released :=
  State.released_congr (State.handOver_power s i nowActive)

theorem State.withInput_frame (s : State) (i : InputName) (x : InputState) : State.SameOutside [.inputs] s (s.withInput i x) := by
  intro b hb
  unfold State.withInput
  cases b <;> simp only [State.sameBlock] <;> first | (simp at hb; done) | simp

@[simp] theorem State.withInput_power (s : State) (i : InputName) (x : InputState) : (s.withInput i x).power = s.power :=
  State.withInput_frame s i x .power (by decide)

@[simp] theorem State.withInput_line (s : State) (i : InputName) (x : InputState) : (s.withInput i x).line = s.line :=
  State.withInput_frame s i x .line (by decide)

@[simp] theorem State.withInput_slot (s : State) (i : InputName) (x : InputState) : (s.withInput i x).slot = s.slot :=
  State.withInput_frame s i x .slot (by decide)

@[simp] theorem State.withInput_ctrl (s : State) (i : InputName) (x : InputState) : (s.withInput i x).ctrl = s.ctrl :=
  State.withInput_frame s i x .ctrl (by decide)

@[simp] theorem State.withInput_demand (s : State) (i : InputName) (x : InputState) : (s.withInput i x).demand = s.demand :=
  State.withInput_frame s i x .demand (by decide)

@[simp] theorem State.withInput_joint (s : State) (i : InputName) (x : InputState) : (s.withInput i x).joint = s.joint :=
  State.withInput_frame s i x .joint (by decide)

@[simp] theorem State.withInput_wheel (s : State) (i : InputName) (x : InputState) : (s.withInput i x).wheel = s.wheel :=
  State.withInput_frame s i x .wheel (by decide)

@[simp] theorem State.withInput_drive (s : State) (i : InputName) (x : InputState) : (s.withInput i x).drive = s.drive :=
  State.withInput_frame s i x .drive (by decide)

@[simp] theorem State.withInput_table (s : State) (i : InputName) (x : InputState) : (s.withInput i x).table = s.table :=
  State.withInput_frame s i x .table (by decide)

@[simp] theorem State.withInput_events (s : State) (i : InputName) (x : InputState) : (s.withInput i x).events = s.events :=
  State.withInput_frame s i x .events (by decide)

@[simp] theorem State.withInput_lamp (s : State) (i : InputName) (x : InputState) : (s.withInput i x).lamp = s.lamp :=
  State.withInput_frame s i x .lamp (by decide)

@[simp] theorem State.withInput_pending (s : State) (i : InputName) (x : InputState) : (s.withInput i x).pending = s.pending :=
  State.withInput_frame s i x .pending (by decide)

@[simp] theorem State.withInput_params (s : State) (i : InputName) (x : InputState) : (s.withInput i x).params = s.params :=
  State.params_congr (State.withInput_table s i x)

@[simp] theorem State.withInput_isEnd (s : State) (i : InputName) (x : InputState) : (s.withInput i x).isEnd = s.isEnd :=
  State.isEnd_congr (State.withInput_power s i x)

@[simp] theorem State.withInput_released (s : State) (i : InputName) (x : InputState) : (s.withInput i x).released = s.released :=
  State.released_congr (State.withInput_power s i x)

theorem State.markSampled_frame (s : State) (i : InputName) : State.SameOutside [.power] s (s.markSampled i) := by
  intro b hb
  unfold State.markSampled
  cases b <;> simp only [State.sameBlock] <;> first | (simp at hb; done) | simp

@[simp] theorem State.markSampled_line (s : State) (i : InputName) : (s.markSampled i).line = s.line :=
  State.markSampled_frame s i .line (by decide)

@[simp] theorem State.markSampled_slot (s : State) (i : InputName) : (s.markSampled i).slot = s.slot :=
  State.markSampled_frame s i .slot (by decide)

@[simp] theorem State.markSampled_ctrl (s : State) (i : InputName) : (s.markSampled i).ctrl = s.ctrl :=
  State.markSampled_frame s i .ctrl (by decide)

@[simp] theorem State.markSampled_demand (s : State) (i : InputName) : (s.markSampled i).demand = s.demand :=
  State.markSampled_frame s i .demand (by decide)

@[simp] theorem State.markSampled_joint (s : State) (i : InputName) : (s.markSampled i).joint = s.joint :=
  State.markSampled_frame s i .joint (by decide)

@[simp] theorem State.markSampled_wheel (s : State) (i : InputName) : (s.markSampled i).wheel = s.wheel :=
  State.markSampled_frame s i .wheel (by decide)

@[simp] theorem State.markSampled_drive (s : State) (i : InputName) : (s.markSampled i).drive = s.drive :=
  State.markSampled_frame s i .drive (by decide)

@[simp] theorem State.markSampled_table (s : State) (i : InputName) : (s.markSampled i).table = s.table :=
  State.markSampled_frame s i .table (by decide)

@[simp] theorem State.markSampled_events (s : State) (i : InputName) : (s.markSampled i).events = s.events :=
  State.markSampled_frame s i .events (by decide)

@[simp] theorem State.markSampled_inputs (s : State) (i : InputName) : (s.markSampled i).inputs = s.inputs :=
  State.markSampled_frame s i .inputs (by decide)

@[simp] theorem State.markSampled_lamp (s : State) (i : InputName) : (s.markSampled i).lamp = s.lamp :=
  State.markSampled_frame s i .lamp (by decide)

@[simp] theorem State.markSampled_pending (s : State) (i : InputName) : (s.markSampled i).pending = s.pending :=
  State.markSampled_frame s i .pending (by decide)

@[simp] theorem State.markSampled_params (s : State) (i : InputName) : (s.markSampled i).params = s.params :=
  State.params_congr (State.markSampled_table s i)

theorem State.setPin_frame (s : State) (i : InputName) (level : Level) : State.SameOutside [.ctrl, .demand, .drive, .events, .inputs] s (s.setPin i level) := by
  intro b hb
  unfold State.setPin
  cases b <;> simp only [State.sameBlock] <;> first | (simp at hb; done) | (repeat' split) <;> simp

@[simp] theorem State.setPin_power (s : State) (i : InputName) (level : Level) : (s.setPin i level).power = s.power :=
  State.setPin_frame s i level .power (by decide)

@[simp] theorem State.setPin_line (s : State) (i : InputName) (level : Level) : (s.setPin i level).line = s.line :=
  State.setPin_frame s i level .line (by decide)

@[simp] theorem State.setPin_slot (s : State) (i : InputName) (level : Level) : (s.setPin i level).slot = s.slot :=
  State.setPin_frame s i level .slot (by decide)

@[simp] theorem State.setPin_joint (s : State) (i : InputName) (level : Level) : (s.setPin i level).joint = s.joint :=
  State.setPin_frame s i level .joint (by decide)

@[simp] theorem State.setPin_wheel (s : State) (i : InputName) (level : Level) : (s.setPin i level).wheel = s.wheel :=
  State.setPin_frame s i level .wheel (by decide)

@[simp] theorem State.setPin_table (s : State) (i : InputName) (level : Level) : (s.setPin i level).table = s.table :=
  State.setPin_frame s i level .table (by decide)

@[simp] theorem State.setPin_lamp (s : State) (i : InputName) (level : Level) : (s.setPin i level).lamp = s.lamp :=
  State.setPin_frame s i level .lamp (by decide)

@[simp] theorem State.setPin_pending (s : State) (i : InputName) (level : Level) : (s.setPin i level).pending = s.pending :=
  State.setPin_frame s i level .pending (by decide)

@[simp] theorem State.setPin_params (s : State) (i : InputName) (level : Level) : (s.setPin i level).params = s.params :=
  State.params_congr (State.setPin_table s i level)

@[simp] theorem State.setPin_isEnd (s : State) (i : InputName) (level : Level) : (s.setPin i level).isEnd = s.isEnd :=
  State.isEnd_congr (State.setPin_power s i level)

@[simp] theorem State.setPin_released (s : State) (i : InputName) (level : Level) : (s.setPin i level).released = s.released :=
  State.released_congr (State.setPin_power s i level)

theorem State.sampleInput_frame (s : State) (i : InputName) (level : Level) : State.SameOutside [.ctrl, .demand, .drive, .events, .inputs] s (s.sampleInput i level) := by
  intro b hb
  unfold State.sampleInput
  cases b <;> simp only [State.sameBlock] <;> first | (simp at hb; done) | (repeat' split) <;> simp

@[simp] theorem State.sampleInput_power (s : State) (i : InputName) (level : Level) : (s.sampleInput i level).power = s.power :=
  State.sampleInput_frame s i level .power (by decide)

@[simp] theorem State.sampleInput_line (s : State) (i : InputName) (level : Level) : (s.sampleInput i level).line = s.line :=
  State.sampleInput_frame s i level .line (by decide)

@[simp] theorem State.sampleInput_slot (s : State) (i : InputName) (level : Level) : (s.sampleInput i level).slot = s.slot :=
  State.sampleInput_frame s i level .slot (by decide)

@[simp] theorem State.sampleInput_joint (s : State) (i : InputName) (level : Level) : (s.sampleInput i level).joint = s.joint :=
  State.sampleInput_frame s i level .joint (by decide)

@[simp] theorem State.sampleInput_wheel (s : State) (i : InputName) (level : Level) : (s.sampleInput i level).wheel = s.wheel :=
  State.sampleInput_frame s i level .wheel (by decide)

@[simp] theorem State.sampleInput_table (s : State) (i : InputName) (level : Level) : (s.sampleInput i level).table = s.table :=
  State.sampleInput_frame s i level .table (by decide)

@[simp] theorem State.sampleInput_lamp (s : State) (i : InputName) (level : Level) : (s.sampleInput i level).lamp = s.lamp :=
  State.sampleInput_frame s i level .lamp (by decide)

@[simp] theorem State.sampleInput_pending (s : State) (i : InputName) (level : Level) : (s.sampleInput i level).pending = s.pending :=
  State.sampleInput_frame s i level .pending (by decide)

@[simp] theorem State.sampleInput_params (s : State) (i : InputName) (level : Level) : (s.sampleInput i level).params = s.params :=
  State.params_congr (State.sampleInput_table s i level)

@[simp] theorem State.sampleInput_isEnd (s : State) (i : InputName) (level : Level) : (s.sampleInput i level).isEnd = s.isEnd :=
  State.isEnd_congr (State.sampleInput_power s i level)

@[simp] theorem State.sampleInput_released (s : State) (i : InputName) (level : Level) : (s.sampleInput i level).released = s.released :=
  State.released_congr (State.sampleInput_power s i level)

theorem State.safeTurn_frame (s : State) (nowActive : Bool) : State.SameOutside [.ctrl, .demand, .drive, .events] s (s.safeTurn nowActive) := by
  intro b hb
  unfold State.safeTurn
  cases b <;> simp only [State.sameBlock] <;> first | (simp at hb; done) | (repeat' split) <;> simp

@[simp] theorem State.safeTurn_power (s : State) (nowActive : Bool) : (s.safeTurn nowActive).power = s.power :=
  State.safeTurn_frame s nowActive .power (by decide)

@[simp] theorem State.safeTurn_line (s : State) (nowActive : Bool) : (s.safeTurn nowActive).line = s.line :=
  State.safeTurn_frame s nowActive .line (by decide)

@[simp] theorem State.safeTurn_slot (s : State) (nowActive : Bool) : (s.safeTurn nowActive).slot = s.slot :=
  State.safeTurn_frame s nowActive .slot (by decide)

@[simp] theorem State.safeTurn_joint (s : State) (nowActive : Bool) : (s.safeTurn nowActive).joint = s.joint :=
  State.safeTurn_frame s nowActive .joint (by decide)

@[simp] theorem State.safeTurn_wheel (s : State) (nowActive : Bool) : (s.safeTurn nowActive).wheel = s.wheel :=
  State.safeTurn_frame s nowActive .wheel (by decide)

@[simp] theorem State.safeTurn_table (s : State) (nowActive : Bool) : (s.safeTurn nowActive).table = s.table :=
  State.safeTurn_frame s nowActive .table (by decide)

@[simp] theorem State.safeTurn_inputs (s : State) (nowActive : Bool) : (s.safeTurn nowActive).inputs = s.inputs :=
  State.safeTurn_frame s nowActive .inputs (by decide)

@[simp] theorem State.safeTurn_lamp (s : State) (nowActive : Bool) : (s.safeTurn nowActive).lamp = s.lamp :=
  State.safeTurn_frame s nowActive .lamp (by decide)

@[simp] theorem State.safeTurn_pending (s : State) (nowActive : Bool) : (s.safeTurn nowActive).pending = s.pending :=
  State.safeTurn_frame s nowActive .pending (by decide)

@[simp] theorem State.safeTurn_params (s : State) (nowActive : Bool) : (s.safeTurn nowActive).params = s.params :=
  State.params_congr (State.safeTurn_table s nowActive)

@[simp] theorem State.safeTurn_isEnd (s : State) (nowActive : Bool) : (s.safeTurn nowActive).isEnd = s.isEnd :=
  State.isEnd_congr (State.safeTurn_power s nowActive)

@[simp] theorem State.safeTurn_released (s : State) (nowActive : Bool) : (s.safeTurn nowActive).released = s.released :=
  State.released_congr (State.safeTurn_power s nowActive)

theorem State.inputAtSwap_frame (s : State) (old : Params) (i : InputName) : State.SameOutside [.ctrl, .demand, .drive, .events, .inputs] s (s.inputAtSwap old i) := by
  intro b hb
  unfold State.inputAtSwap
  cases b <;> simp only [State.sameBlock] <;> first | (simp at hb; done) | (repeat' split) <;> simp

@[simp] theorem State.inputAtSwap_power (s : State) (old : Params) (i : InputName) : (s.inputAtSwap old i).power = s.power :=
  State.inputAtSwap_frame s old i .power (by decide)

@[simp] theorem State.inputAtSwap_line (s : State) (old : Params) (i : InputName) : (s.inputAtSwap old i).line = s.line :=
  State.inputAtSwap_frame s old i .line (by decide)

@[simp] theorem State.inputAtSwap_slot (s : State) (old : Params) (i : InputName) : (s.inputAtSwap old i).slot = s.slot :=
  State.inputAtSwap_frame s old i .slot (by decide)

@[simp] theorem State.inputAtSwap_joint (s : State) (old : Params) (i : InputName) : (s.inputAtSwap old i).joint = s.joint :=
  State.inputAtSwap_frame s old i .joint (by decide)

@[simp] theorem State.inputAtSwap_wheel (s : State) (old : Params) (i : InputName) : (s.inputAtSwap old i).wheel = s.wheel :=
  State.inputAtSwap_frame s old i .wheel (by decide)

@[simp] theorem State.inputAtSwap_table (s : State) (old : Params) (i : InputName) : (s.inputAtSwap old i).table = s.table :=
  State.inputAtSwap_frame s old i .table (by decide)

@[simp] theorem State.inputAtSwap_lamp (s : State) (old : Params) (i : InputName) : (s.inputAtSwap old i).lamp = s.lamp :=
  State.inputAtSwap_frame s old i .lamp (by decide)

@[simp] theorem State.inputAtSwap_pending (s : State) (old : Params) (i : InputName) : (s.inputAtSwap old i).pending = s.pending :=
  State.inputAtSwap_frame s old i .pending (by decide)

@[simp] theorem State.inputAtSwap_params (s : State) (old : Params) (i : InputName) : (s.inputAtSwap old i).params = s.params :=
  State.params_congr (State.inputAtSwap_table s old i)

@[simp] theorem State.inputAtSwap_isEnd (s : State) (old : Params) (i : InputName) : (s.inputAtSwap old i).isEnd = s.isEnd :=
  State.isEnd_congr (State.inputAtSwap_power s old i)

@[simp] theorem State.inputAtSwap_released (s : State) (old : Params) (i : InputName) : (s.inputAtSwap old i).released = s.released :=
  State.released_congr (State.inputAtSwap_power s old i)

theorem State.inputTurns_frame (s : State) (old : Params) : State.SameOutside [.ctrl, .demand, .drive, .events, .inputs] s (s.inputTurns old) := by
  intro b hb
  unfold State.inputTurns
  cases b <;> simp only [State.sameBlock] <;> first | (simp at hb; done) | simp

@[simp] theorem State.inputTurns_power (s : State) (old : Params) : (s.inputTurns old).power = s.power :=
  State.inputTurns_frame s old .power (by decide)

@[simp] theorem State.inputTurns_line (s : State) (old : Params) : (s.inputTurns old).line = s.line :=
  State.inputTurns_frame s old .line (by decide)

@[simp] theorem State.inputTurns_slot (s : State) (old : Params) : (s.inputTurns old).slot = s.slot :=
  State.inputTurns_frame s old .slot (by decide)

@[simp] theorem State.inputTurns_joint (s : State) (old : Params) : (s.inputTurns old).joint = s.joint :=
  State.inputTurns_frame s old .joint (by decide)

@[simp] theorem State.inputTurns_wheel (s : State) (old : Params) : (s.inputTurns old).wheel = s.wheel :=
  State.inputTurns_frame s old .wheel (by decide)

@[simp] theorem State.inputTurns_table (s : State) (old : Params) : (s.inputTurns old).table = s.table :=
  State.inputTurns_frame s old .table (by decide)

@[simp] theorem State.inputTurns_lamp (s : State) (old : Params) : (s.inputTurns old).lamp = s.lamp :=
  State.inputTurns_frame s old .lamp (by decide)

@[simp] theorem State.inputTurns_pending (s : State) (old : Params) : (s.inputTurns old).pending = s.pending :=
  State.inputTurns_frame s old .pending (by decide)

@[simp] theorem State.inputTurns_params (s : State) (old : Params) : (s.inputTurns old).params = s.params :=
  State.params_congr (State.inputTurns_table s old)

@[simp] theorem State.inputTurns_isEnd (s : State) (old : Params) : (s.inputTurns old).isEnd = s.isEnd :=
  State.isEnd_congr (State.inputTurns_power s old)

@[simp] theorem State.inputTurns_released (s : State) (old : Params) : (s.inputTurns old).released = s.released :=
  State.released_congr (State.inputTurns_power s old)

theorem State.inputsAtSwap_frame (s : State) (old : Params) : State.SameOutside [.ctrl, .demand, .drive, .events, .inputs] s (s.inputsAtSwap old) := by
  intro b hb
  unfold State.inputsAtSwap
  cases b <;> simp only [State.sameBlock] <;> first | (simp at hb; done) | simp

@[simp] theorem State.inputsAtSwap_power (s : State) (old : Params) : (s.inputsAtSwap old).power = s.power :=
  State.inputsAtSwap_frame s old .power (by decide)

@[simp] theorem State.inputsAtSwap_line (s : State) (old : Params) : (s.inputsAtSwap old).line = s.line :=
  State.inputsAtSwap_frame s old .line (by decide)

@[simp] theorem State.inputsAtSwap_slot (s : State) (old : Params) : (s.inputsAtSwap old).slot = s.slot :=
  State.inputsAtSwap_frame s old .slot (by decide)

@[simp] theorem State.inputsAtSwap_joint (s : State) (old : Params) : (s.inputsAtSwap old).joint = s.joint :=
  State.inputsAtSwap_frame s old .joint (by decide)

@[simp] theorem State.inputsAtSwap_wheel (s : State) (old : Params) : (s.inputsAtSwap old).wheel = s.wheel :=
  State.inputsAtSwap_frame s old .wheel (by decide)

@[simp] theorem State.inputsAtSwap_table (s : State) (old : Params) : (s.inputsAtSwap old).table = s.table :=
  State.inputsAtSwap_frame s old .table (by decide)

@[simp] theorem State.inputsAtSwap_lamp (s : State) (old : Params) : (s.inputsAtSwap old).lamp = s.lamp :=
  State.inputsAtSwap_frame s old .lamp (by decide)

@[simp] theorem State.inputsAtSwap_pending (s : State) (old : Params) : (s.inputsAtSwap old).pending = s.pending :=
  State.inputsAtSwap_frame s old .pending (by decide)

@[simp] theorem State.inputsAtSwap_params (s : State) (old : Params) : (s.inputsAtSwap old).params = s.params :=
  State.params_congr (State.inputsAtSwap_table s old)

@[simp] theorem State.inputsAtSwap_isEnd (s : State) (old : Params) : (s.inputsAtSwap old).isEnd = s.isEnd :=
  State.isEnd_congr (State.inputsAtSwap_power s old)

@[simp] theorem State.inputsAtSwap_released (s : State) (old : Params) : (s.inputsAtSwap old).released = s.released :=
  State.released_congr (State.inputsAtSwap_power s old)

/-! ## Slot commands -/

theorem State.applyClearSet_frame (s : State) (named : Word16) : State.SameOutside [.demand, .wheel, .events] s (s.applyClearSet named) := by
  intro b hb
  unfold State.applyClearSet
  cases b <;> simp only [State.sameBlock] <;> first | (simp at hb; done) | (repeat' split) <;> simp

@[simp] theorem State.applyClearSet_power (s : State) (named : Word16) : (s.applyClearSet named).power = s.power :=
  State.applyClearSet_frame s named .power (by decide)

@[simp] theorem State.applyClearSet_line (s : State) (named : Word16) : (s.applyClearSet named).line = s.line :=
  State.applyClearSet_frame s named .line (by decide)

@[simp] theorem State.applyClearSet_slot (s : State) (named : Word16) : (s.applyClearSet named).slot = s.slot :=
  State.applyClearSet_frame s named .slot (by decide)

@[simp] theorem State.applyClearSet_ctrl (s : State) (named : Word16) : (s.applyClearSet named).ctrl = s.ctrl :=
  State.applyClearSet_frame s named .ctrl (by decide)

@[simp] theorem State.applyClearSet_joint (s : State) (named : Word16) : (s.applyClearSet named).joint = s.joint :=
  State.applyClearSet_frame s named .joint (by decide)

@[simp] theorem State.applyClearSet_drive (s : State) (named : Word16) : (s.applyClearSet named).drive = s.drive :=
  State.applyClearSet_frame s named .drive (by decide)

@[simp] theorem State.applyClearSet_table (s : State) (named : Word16) : (s.applyClearSet named).table = s.table :=
  State.applyClearSet_frame s named .table (by decide)

@[simp] theorem State.applyClearSet_inputs (s : State) (named : Word16) : (s.applyClearSet named).inputs = s.inputs :=
  State.applyClearSet_frame s named .inputs (by decide)

@[simp] theorem State.applyClearSet_lamp (s : State) (named : Word16) : (s.applyClearSet named).lamp = s.lamp :=
  State.applyClearSet_frame s named .lamp (by decide)

@[simp] theorem State.applyClearSet_pending (s : State) (named : Word16) : (s.applyClearSet named).pending = s.pending :=
  State.applyClearSet_frame s named .pending (by decide)

@[simp] theorem State.applyClearSet_params (s : State) (named : Word16) : (s.applyClearSet named).params = s.params :=
  State.params_congr (State.applyClearSet_table s named)

@[simp] theorem State.applyClearSet_isEnd (s : State) (named : Word16) : (s.applyClearSet named).isEnd = s.isEnd :=
  State.isEnd_congr (State.applyClearSet_power s named)

@[simp] theorem State.applyClearSet_released (s : State) (named : Word16) : (s.applyClearSet named).released = s.released :=
  State.released_congr (State.applyClearSet_power s named)

theorem State.acceptDriveReset_frame (s : State) : State.SameOutside [.ctrl, .demand, .wheel, .drive, .events] s (s.acceptDriveReset) := by
  intro b hb
  unfold State.acceptDriveReset
  cases b <;> simp only [State.sameBlock] <;> first | (simp at hb; done) | (repeat' split) <;> simp

@[simp] theorem State.acceptDriveReset_power (s : State) : (s.acceptDriveReset).power = s.power :=
  State.acceptDriveReset_frame s .power (by decide)

@[simp] theorem State.acceptDriveReset_line (s : State) : (s.acceptDriveReset).line = s.line :=
  State.acceptDriveReset_frame s .line (by decide)

@[simp] theorem State.acceptDriveReset_slot (s : State) : (s.acceptDriveReset).slot = s.slot :=
  State.acceptDriveReset_frame s .slot (by decide)

@[simp] theorem State.acceptDriveReset_joint (s : State) : (s.acceptDriveReset).joint = s.joint :=
  State.acceptDriveReset_frame s .joint (by decide)

@[simp] theorem State.acceptDriveReset_table (s : State) : (s.acceptDriveReset).table = s.table :=
  State.acceptDriveReset_frame s .table (by decide)

@[simp] theorem State.acceptDriveReset_inputs (s : State) : (s.acceptDriveReset).inputs = s.inputs :=
  State.acceptDriveReset_frame s .inputs (by decide)

@[simp] theorem State.acceptDriveReset_lamp (s : State) : (s.acceptDriveReset).lamp = s.lamp :=
  State.acceptDriveReset_frame s .lamp (by decide)

@[simp] theorem State.acceptDriveReset_pending (s : State) : (s.acceptDriveReset).pending = s.pending :=
  State.acceptDriveReset_frame s .pending (by decide)

@[simp] theorem State.acceptDriveReset_params (s : State) : (s.acceptDriveReset).params = s.params :=
  State.params_congr (State.acceptDriveReset_table s)

@[simp] theorem State.acceptDriveReset_isEnd (s : State) : (s.acceptDriveReset).isEnd = s.isEnd :=
  State.isEnd_congr (State.acceptDriveReset_power s)

@[simp] theorem State.acceptDriveReset_released (s : State) : (s.acceptDriveReset).released = s.released :=
  State.released_congr (State.acceptDriveReset_power s)

theorem State.applyDriveReset_frame (s : State) : State.SameOutside [.ctrl, .demand, .wheel, .drive, .events] s (s.applyDriveReset) := by
  intro b hb
  unfold State.applyDriveReset
  cases b <;> simp only [State.sameBlock] <;> first | (simp at hb; done) | (repeat' split) <;> simp

@[simp] theorem State.applyDriveReset_power (s : State) : (s.applyDriveReset).power = s.power :=
  State.applyDriveReset_frame s .power (by decide)

@[simp] theorem State.applyDriveReset_line (s : State) : (s.applyDriveReset).line = s.line :=
  State.applyDriveReset_frame s .line (by decide)

@[simp] theorem State.applyDriveReset_slot (s : State) : (s.applyDriveReset).slot = s.slot :=
  State.applyDriveReset_frame s .slot (by decide)

@[simp] theorem State.applyDriveReset_joint (s : State) : (s.applyDriveReset).joint = s.joint :=
  State.applyDriveReset_frame s .joint (by decide)

@[simp] theorem State.applyDriveReset_table (s : State) : (s.applyDriveReset).table = s.table :=
  State.applyDriveReset_frame s .table (by decide)

@[simp] theorem State.applyDriveReset_inputs (s : State) : (s.applyDriveReset).inputs = s.inputs :=
  State.applyDriveReset_frame s .inputs (by decide)

@[simp] theorem State.applyDriveReset_lamp (s : State) : (s.applyDriveReset).lamp = s.lamp :=
  State.applyDriveReset_frame s .lamp (by decide)

@[simp] theorem State.applyDriveReset_pending (s : State) : (s.applyDriveReset).pending = s.pending :=
  State.applyDriveReset_frame s .pending (by decide)

@[simp] theorem State.applyDriveReset_params (s : State) : (s.applyDriveReset).params = s.params :=
  State.params_congr (State.applyDriveReset_table s)

@[simp] theorem State.applyDriveReset_isEnd (s : State) : (s.applyDriveReset).isEnd = s.isEnd :=
  State.isEnd_congr (State.applyDriveReset_power s)

@[simp] theorem State.applyDriveReset_released (s : State) : (s.applyDriveReset).released = s.released :=
  State.released_congr (State.applyDriveReset_power s)

/-! ## The line -/

theorem State.loseReturns_frame (s : State) : State.SameOutside [.ctrl, .demand, .drive, .events] s (s.loseReturns) := by
  intro b hb
  unfold State.loseReturns
  cases b <;> simp only [State.sameBlock] <;> first | (simp at hb; done) | simp

@[simp] theorem State.loseReturns_power (s : State) : (s.loseReturns).power = s.power :=
  State.loseReturns_frame s .power (by decide)

@[simp] theorem State.loseReturns_line (s : State) : (s.loseReturns).line = s.line :=
  State.loseReturns_frame s .line (by decide)

@[simp] theorem State.loseReturns_slot (s : State) : (s.loseReturns).slot = s.slot :=
  State.loseReturns_frame s .slot (by decide)

@[simp] theorem State.loseReturns_joint (s : State) : (s.loseReturns).joint = s.joint :=
  State.loseReturns_frame s .joint (by decide)

@[simp] theorem State.loseReturns_wheel (s : State) : (s.loseReturns).wheel = s.wheel :=
  State.loseReturns_frame s .wheel (by decide)

@[simp] theorem State.loseReturns_table (s : State) : (s.loseReturns).table = s.table :=
  State.loseReturns_frame s .table (by decide)

@[simp] theorem State.loseReturns_inputs (s : State) : (s.loseReturns).inputs = s.inputs :=
  State.loseReturns_frame s .inputs (by decide)

@[simp] theorem State.loseReturns_lamp (s : State) : (s.loseReturns).lamp = s.lamp :=
  State.loseReturns_frame s .lamp (by decide)

@[simp] theorem State.loseReturns_pending (s : State) : (s.loseReturns).pending = s.pending :=
  State.loseReturns_frame s .pending (by decide)

@[simp] theorem State.loseReturns_params (s : State) : (s.loseReturns).params = s.params :=
  State.params_congr (State.loseReturns_table s)

@[simp] theorem State.loseReturns_isEnd (s : State) : (s.loseReturns).isEnd = s.isEnd :=
  State.isEnd_congr (State.loseReturns_power s)

@[simp] theorem State.loseReturns_released (s : State) : (s.loseReturns).released = s.released :=
  State.released_congr (State.loseReturns_power s)

theorem State.countMiss_frame (s : State) : State.SameOutside [.line, .ctrl, .demand, .drive, .events] s (s.countMiss) := by
  intro b hb
  unfold State.countMiss
  cases b <;> simp only [State.sameBlock] <;> first | (simp at hb; done) | (repeat' split) <;> simp

@[simp] theorem State.countMiss_power (s : State) : (s.countMiss).power = s.power :=
  State.countMiss_frame s .power (by decide)

@[simp] theorem State.countMiss_slot (s : State) : (s.countMiss).slot = s.slot :=
  State.countMiss_frame s .slot (by decide)

@[simp] theorem State.countMiss_joint (s : State) : (s.countMiss).joint = s.joint :=
  State.countMiss_frame s .joint (by decide)

@[simp] theorem State.countMiss_wheel (s : State) : (s.countMiss).wheel = s.wheel :=
  State.countMiss_frame s .wheel (by decide)

@[simp] theorem State.countMiss_table (s : State) : (s.countMiss).table = s.table :=
  State.countMiss_frame s .table (by decide)

@[simp] theorem State.countMiss_inputs (s : State) : (s.countMiss).inputs = s.inputs :=
  State.countMiss_frame s .inputs (by decide)

@[simp] theorem State.countMiss_lamp (s : State) : (s.countMiss).lamp = s.lamp :=
  State.countMiss_frame s .lamp (by decide)

@[simp] theorem State.countMiss_pending (s : State) : (s.countMiss).pending = s.pending :=
  State.countMiss_frame s .pending (by decide)

@[simp] theorem State.countMiss_params (s : State) : (s.countMiss).params = s.params :=
  State.params_congr (State.countMiss_table s)

@[simp] theorem State.countMiss_isEnd (s : State) : (s.countMiss).isEnd = s.isEnd :=
  State.isEnd_congr (State.countMiss_power s)

@[simp] theorem State.countMiss_released (s : State) : (s.countMiss).released = s.released :=
  State.released_congr (State.countMiss_power s)

theorem State.returnCheck_frame (s : State) (seq : Word16) : State.SameOutside [.line, .ctrl, .demand, .drive, .events] s (s.returnCheck seq) := by
  intro b hb
  unfold State.returnCheck
  cases b <;> simp only [State.sameBlock] <;> first | (simp at hb; done) | (repeat' split) <;> simp

@[simp] theorem State.returnCheck_power (s : State) (seq : Word16) : (s.returnCheck seq).power = s.power :=
  State.returnCheck_frame s seq .power (by decide)

@[simp] theorem State.returnCheck_slot (s : State) (seq : Word16) : (s.returnCheck seq).slot = s.slot :=
  State.returnCheck_frame s seq .slot (by decide)

@[simp] theorem State.returnCheck_joint (s : State) (seq : Word16) : (s.returnCheck seq).joint = s.joint :=
  State.returnCheck_frame s seq .joint (by decide)

@[simp] theorem State.returnCheck_wheel (s : State) (seq : Word16) : (s.returnCheck seq).wheel = s.wheel :=
  State.returnCheck_frame s seq .wheel (by decide)

@[simp] theorem State.returnCheck_table (s : State) (seq : Word16) : (s.returnCheck seq).table = s.table :=
  State.returnCheck_frame s seq .table (by decide)

@[simp] theorem State.returnCheck_inputs (s : State) (seq : Word16) : (s.returnCheck seq).inputs = s.inputs :=
  State.returnCheck_frame s seq .inputs (by decide)

@[simp] theorem State.returnCheck_lamp (s : State) (seq : Word16) : (s.returnCheck seq).lamp = s.lamp :=
  State.returnCheck_frame s seq .lamp (by decide)

@[simp] theorem State.returnCheck_pending (s : State) (seq : Word16) : (s.returnCheck seq).pending = s.pending :=
  State.returnCheck_frame s seq .pending (by decide)

@[simp] theorem State.returnCheck_params (s : State) (seq : Word16) : (s.returnCheck seq).params = s.params :=
  State.params_congr (State.returnCheck_table s seq)

@[simp] theorem State.returnCheck_isEnd (s : State) (seq : Word16) : (s.returnCheck seq).isEnd = s.isEnd :=
  State.isEnd_congr (State.returnCheck_power s seq)

@[simp] theorem State.returnCheck_released (s : State) (seq : Word16) : (s.returnCheck seq).released = s.released :=
  State.released_congr (State.returnCheck_power s seq)

theorem State.takeOutbound_frame (s : State) (f : Frame) : State.SameOutside [.line, .ctrl, .demand, .drive, .events] s (s.takeOutbound f) := by
  intro b hb
  unfold State.takeOutbound
  cases b <;> simp only [State.sameBlock] <;> first | (simp at hb; done) | (repeat' split) <;> simp

@[simp] theorem State.takeOutbound_power (s : State) (f : Frame) : (s.takeOutbound f).power = s.power :=
  State.takeOutbound_frame s f .power (by decide)

@[simp] theorem State.takeOutbound_slot (s : State) (f : Frame) : (s.takeOutbound f).slot = s.slot :=
  State.takeOutbound_frame s f .slot (by decide)

@[simp] theorem State.takeOutbound_joint (s : State) (f : Frame) : (s.takeOutbound f).joint = s.joint :=
  State.takeOutbound_frame s f .joint (by decide)

@[simp] theorem State.takeOutbound_wheel (s : State) (f : Frame) : (s.takeOutbound f).wheel = s.wheel :=
  State.takeOutbound_frame s f .wheel (by decide)

@[simp] theorem State.takeOutbound_table (s : State) (f : Frame) : (s.takeOutbound f).table = s.table :=
  State.takeOutbound_frame s f .table (by decide)

@[simp] theorem State.takeOutbound_inputs (s : State) (f : Frame) : (s.takeOutbound f).inputs = s.inputs :=
  State.takeOutbound_frame s f .inputs (by decide)

@[simp] theorem State.takeOutbound_lamp (s : State) (f : Frame) : (s.takeOutbound f).lamp = s.lamp :=
  State.takeOutbound_frame s f .lamp (by decide)

@[simp] theorem State.takeOutbound_pending (s : State) (f : Frame) : (s.takeOutbound f).pending = s.pending :=
  State.takeOutbound_frame s f .pending (by decide)

@[simp] theorem State.takeOutbound_params (s : State) (f : Frame) : (s.takeOutbound f).params = s.params :=
  State.params_congr (State.takeOutbound_table s f)

@[simp] theorem State.takeOutbound_isEnd (s : State) (f : Frame) : (s.takeOutbound f).isEnd = s.isEnd :=
  State.isEnd_congr (State.takeOutbound_power s f)

@[simp] theorem State.takeOutbound_released (s : State) (f : Frame) : (s.takeOutbound f).released = s.released :=
  State.released_congr (State.takeOutbound_power s f)

theorem State.restartFrameTimer_frame (s : State) : State.SameOutside [.line] s (s.restartFrameTimer) := by
  intro b hb
  unfold State.restartFrameTimer
  cases b <;> simp only [State.sameBlock] <;> first | (simp at hb; done) | simp

@[simp] theorem State.restartFrameTimer_power (s : State) : (s.restartFrameTimer).power = s.power :=
  State.restartFrameTimer_frame s .power (by decide)

@[simp] theorem State.restartFrameTimer_slot (s : State) : (s.restartFrameTimer).slot = s.slot :=
  State.restartFrameTimer_frame s .slot (by decide)

@[simp] theorem State.restartFrameTimer_ctrl (s : State) : (s.restartFrameTimer).ctrl = s.ctrl :=
  State.restartFrameTimer_frame s .ctrl (by decide)

@[simp] theorem State.restartFrameTimer_demand (s : State) : (s.restartFrameTimer).demand = s.demand :=
  State.restartFrameTimer_frame s .demand (by decide)

@[simp] theorem State.restartFrameTimer_joint (s : State) : (s.restartFrameTimer).joint = s.joint :=
  State.restartFrameTimer_frame s .joint (by decide)

@[simp] theorem State.restartFrameTimer_wheel (s : State) : (s.restartFrameTimer).wheel = s.wheel :=
  State.restartFrameTimer_frame s .wheel (by decide)

@[simp] theorem State.restartFrameTimer_drive (s : State) : (s.restartFrameTimer).drive = s.drive :=
  State.restartFrameTimer_frame s .drive (by decide)

@[simp] theorem State.restartFrameTimer_table (s : State) : (s.restartFrameTimer).table = s.table :=
  State.restartFrameTimer_frame s .table (by decide)

@[simp] theorem State.restartFrameTimer_events (s : State) : (s.restartFrameTimer).events = s.events :=
  State.restartFrameTimer_frame s .events (by decide)

@[simp] theorem State.restartFrameTimer_inputs (s : State) : (s.restartFrameTimer).inputs = s.inputs :=
  State.restartFrameTimer_frame s .inputs (by decide)

@[simp] theorem State.restartFrameTimer_lamp (s : State) : (s.restartFrameTimer).lamp = s.lamp :=
  State.restartFrameTimer_frame s .lamp (by decide)

@[simp] theorem State.restartFrameTimer_pending (s : State) : (s.restartFrameTimer).pending = s.pending :=
  State.restartFrameTimer_frame s .pending (by decide)

@[simp] theorem State.restartFrameTimer_params (s : State) : (s.restartFrameTimer).params = s.params :=
  State.params_congr (State.restartFrameTimer_table s)

@[simp] theorem State.restartFrameTimer_isEnd (s : State) : (s.restartFrameTimer).isEnd = s.isEnd :=
  State.isEnd_congr (State.restartFrameTimer_power s)

@[simp] theorem State.restartFrameTimer_released (s : State) : (s.restartFrameTimer).released = s.released :=
  State.released_congr (State.restartFrameTimer_power s)

theorem State.outboundArrival_frame (s : State) : State.SameOutside [.line, .ctrl, .demand, .drive, .events] s (s.outboundArrival) := by
  intro b hb
  unfold State.outboundArrival
  cases b <;> simp only [State.sameBlock] <;> first | (simp at hb; done) | simp

@[simp] theorem State.outboundArrival_power (s : State) : (s.outboundArrival).power = s.power :=
  State.outboundArrival_frame s .power (by decide)

@[simp] theorem State.outboundArrival_slot (s : State) : (s.outboundArrival).slot = s.slot :=
  State.outboundArrival_frame s .slot (by decide)

@[simp] theorem State.outboundArrival_joint (s : State) : (s.outboundArrival).joint = s.joint :=
  State.outboundArrival_frame s .joint (by decide)

@[simp] theorem State.outboundArrival_wheel (s : State) : (s.outboundArrival).wheel = s.wheel :=
  State.outboundArrival_frame s .wheel (by decide)

@[simp] theorem State.outboundArrival_table (s : State) : (s.outboundArrival).table = s.table :=
  State.outboundArrival_frame s .table (by decide)

@[simp] theorem State.outboundArrival_inputs (s : State) : (s.outboundArrival).inputs = s.inputs :=
  State.outboundArrival_frame s .inputs (by decide)

@[simp] theorem State.outboundArrival_lamp (s : State) : (s.outboundArrival).lamp = s.lamp :=
  State.outboundArrival_frame s .lamp (by decide)

@[simp] theorem State.outboundArrival_pending (s : State) : (s.outboundArrival).pending = s.pending :=
  State.outboundArrival_frame s .pending (by decide)

@[simp] theorem State.outboundArrival_params (s : State) : (s.outboundArrival).params = s.params :=
  State.params_congr (State.outboundArrival_table s)

@[simp] theorem State.outboundArrival_isEnd (s : State) : (s.outboundArrival).isEnd = s.isEnd :=
  State.isEnd_congr (State.outboundArrival_power s)

@[simp] theorem State.outboundArrival_released (s : State) : (s.outboundArrival).released = s.released :=
  State.released_congr (State.outboundArrival_power s)

theorem State.placeFrame_frame (s : State) (link : Link) (f : Frame) : State.SameOutside [.line, .events] s (s.placeFrame link f) := by
  intro b hb
  unfold State.placeFrame
  cases b <;> simp only [State.sameBlock] <;> first | (simp at hb; done) | (repeat' split) <;> simp

@[simp] theorem State.placeFrame_power (s : State) (link : Link) (f : Frame) : (s.placeFrame link f).power = s.power :=
  State.placeFrame_frame s link f .power (by decide)

@[simp] theorem State.placeFrame_slot (s : State) (link : Link) (f : Frame) : (s.placeFrame link f).slot = s.slot :=
  State.placeFrame_frame s link f .slot (by decide)

@[simp] theorem State.placeFrame_ctrl (s : State) (link : Link) (f : Frame) : (s.placeFrame link f).ctrl = s.ctrl :=
  State.placeFrame_frame s link f .ctrl (by decide)

@[simp] theorem State.placeFrame_demand (s : State) (link : Link) (f : Frame) : (s.placeFrame link f).demand = s.demand :=
  State.placeFrame_frame s link f .demand (by decide)

@[simp] theorem State.placeFrame_joint (s : State) (link : Link) (f : Frame) : (s.placeFrame link f).joint = s.joint :=
  State.placeFrame_frame s link f .joint (by decide)

@[simp] theorem State.placeFrame_wheel (s : State) (link : Link) (f : Frame) : (s.placeFrame link f).wheel = s.wheel :=
  State.placeFrame_frame s link f .wheel (by decide)

@[simp] theorem State.placeFrame_drive (s : State) (link : Link) (f : Frame) : (s.placeFrame link f).drive = s.drive :=
  State.placeFrame_frame s link f .drive (by decide)

@[simp] theorem State.placeFrame_table (s : State) (link : Link) (f : Frame) : (s.placeFrame link f).table = s.table :=
  State.placeFrame_frame s link f .table (by decide)

@[simp] theorem State.placeFrame_inputs (s : State) (link : Link) (f : Frame) : (s.placeFrame link f).inputs = s.inputs :=
  State.placeFrame_frame s link f .inputs (by decide)

@[simp] theorem State.placeFrame_lamp (s : State) (link : Link) (f : Frame) : (s.placeFrame link f).lamp = s.lamp :=
  State.placeFrame_frame s link f .lamp (by decide)

@[simp] theorem State.placeFrame_pending (s : State) (link : Link) (f : Frame) : (s.placeFrame link f).pending = s.pending :=
  State.placeFrame_frame s link f .pending (by decide)

@[simp] theorem State.placeFrame_params (s : State) (link : Link) (f : Frame) : (s.placeFrame link f).params = s.params :=
  State.params_congr (State.placeFrame_table s link f)

@[simp] theorem State.placeFrame_isEnd (s : State) (link : Link) (f : Frame) : (s.placeFrame link f).isEnd = s.isEnd :=
  State.isEnd_congr (State.placeFrame_power s link f)

@[simp] theorem State.placeFrame_released (s : State) (link : Link) (f : Frame) : (s.placeFrame link f).released = s.released :=
  State.released_congr (State.placeFrame_power s link f)

theorem State.arriveFrame_frame (s : State) (link : Link) (burst : List RxByte) : State.SameOutside [.line, .ctrl, .demand, .drive, .events] s (s.arriveFrame link burst) := by
  intro b hb
  unfold State.arriveFrame
  cases b <;> simp only [State.sameBlock] <;> first | (simp at hb; done) | (repeat' split) <;> simp

@[simp] theorem State.arriveFrame_power (s : State) (link : Link) (burst : List RxByte) : (s.arriveFrame link burst).power = s.power :=
  State.arriveFrame_frame s link burst .power (by decide)

@[simp] theorem State.arriveFrame_slot (s : State) (link : Link) (burst : List RxByte) : (s.arriveFrame link burst).slot = s.slot :=
  State.arriveFrame_frame s link burst .slot (by decide)

@[simp] theorem State.arriveFrame_joint (s : State) (link : Link) (burst : List RxByte) : (s.arriveFrame link burst).joint = s.joint :=
  State.arriveFrame_frame s link burst .joint (by decide)

@[simp] theorem State.arriveFrame_wheel (s : State) (link : Link) (burst : List RxByte) : (s.arriveFrame link burst).wheel = s.wheel :=
  State.arriveFrame_frame s link burst .wheel (by decide)

@[simp] theorem State.arriveFrame_table (s : State) (link : Link) (burst : List RxByte) : (s.arriveFrame link burst).table = s.table :=
  State.arriveFrame_frame s link burst .table (by decide)

@[simp] theorem State.arriveFrame_inputs (s : State) (link : Link) (burst : List RxByte) : (s.arriveFrame link burst).inputs = s.inputs :=
  State.arriveFrame_frame s link burst .inputs (by decide)

@[simp] theorem State.arriveFrame_lamp (s : State) (link : Link) (burst : List RxByte) : (s.arriveFrame link burst).lamp = s.lamp :=
  State.arriveFrame_frame s link burst .lamp (by decide)

@[simp] theorem State.arriveFrame_pending (s : State) (link : Link) (burst : List RxByte) : (s.arriveFrame link burst).pending = s.pending :=
  State.arriveFrame_frame s link burst .pending (by decide)

@[simp] theorem State.arriveFrame_params (s : State) (link : Link) (burst : List RxByte) : (s.arriveFrame link burst).params = s.params :=
  State.params_congr (State.arriveFrame_table s link burst)

@[simp] theorem State.arriveFrame_isEnd (s : State) (link : Link) (burst : List RxByte) : (s.arriveFrame link burst).isEnd = s.isEnd :=
  State.isEnd_congr (State.arriveFrame_power s link burst)

@[simp] theorem State.arriveFrame_released (s : State) (link : Link) (burst : List RxByte) : (s.arriveFrame link burst).released = s.released :=
  State.released_congr (State.arriveFrame_power s link burst)

theorem State.takeWaiting_frame (s : State) (link : Link) : State.SameOutside [.line] s (s.takeWaiting link) := by
  intro b hb
  unfold State.takeWaiting
  cases b <;> simp only [State.sameBlock] <;> first | (simp at hb; done) | (repeat' split) <;> simp

@[simp] theorem State.takeWaiting_power (s : State) (link : Link) : (s.takeWaiting link).power = s.power :=
  State.takeWaiting_frame s link .power (by decide)

@[simp] theorem State.takeWaiting_slot (s : State) (link : Link) : (s.takeWaiting link).slot = s.slot :=
  State.takeWaiting_frame s link .slot (by decide)

@[simp] theorem State.takeWaiting_ctrl (s : State) (link : Link) : (s.takeWaiting link).ctrl = s.ctrl :=
  State.takeWaiting_frame s link .ctrl (by decide)

@[simp] theorem State.takeWaiting_demand (s : State) (link : Link) : (s.takeWaiting link).demand = s.demand :=
  State.takeWaiting_frame s link .demand (by decide)

@[simp] theorem State.takeWaiting_joint (s : State) (link : Link) : (s.takeWaiting link).joint = s.joint :=
  State.takeWaiting_frame s link .joint (by decide)

@[simp] theorem State.takeWaiting_wheel (s : State) (link : Link) : (s.takeWaiting link).wheel = s.wheel :=
  State.takeWaiting_frame s link .wheel (by decide)

@[simp] theorem State.takeWaiting_drive (s : State) (link : Link) : (s.takeWaiting link).drive = s.drive :=
  State.takeWaiting_frame s link .drive (by decide)

@[simp] theorem State.takeWaiting_table (s : State) (link : Link) : (s.takeWaiting link).table = s.table :=
  State.takeWaiting_frame s link .table (by decide)

@[simp] theorem State.takeWaiting_events (s : State) (link : Link) : (s.takeWaiting link).events = s.events :=
  State.takeWaiting_frame s link .events (by decide)

@[simp] theorem State.takeWaiting_inputs (s : State) (link : Link) : (s.takeWaiting link).inputs = s.inputs :=
  State.takeWaiting_frame s link .inputs (by decide)

@[simp] theorem State.takeWaiting_lamp (s : State) (link : Link) : (s.takeWaiting link).lamp = s.lamp :=
  State.takeWaiting_frame s link .lamp (by decide)

@[simp] theorem State.takeWaiting_pending (s : State) (link : Link) : (s.takeWaiting link).pending = s.pending :=
  State.takeWaiting_frame s link .pending (by decide)

@[simp] theorem State.takeWaiting_params (s : State) (link : Link) : (s.takeWaiting link).params = s.params :=
  State.params_congr (State.takeWaiting_table s link)

@[simp] theorem State.takeWaiting_isEnd (s : State) (link : Link) : (s.takeWaiting link).isEnd = s.isEnd :=
  State.isEnd_congr (State.takeWaiting_power s link)

@[simp] theorem State.takeWaiting_released (s : State) (link : Link) : (s.takeWaiting link).released = s.released :=
  State.released_congr (State.takeWaiting_power s link)

theorem State.finishSending_frame (s : State) (link : Link) : State.SameOutside [.line] s (s.finishSending link) := by
  intro b hb
  unfold State.finishSending
  cases b <;> simp only [State.sameBlock] <;> first | (simp at hb; done) | (repeat' split) <;> simp

@[simp] theorem State.finishSending_power (s : State) (link : Link) : (s.finishSending link).power = s.power :=
  State.finishSending_frame s link .power (by decide)

@[simp] theorem State.finishSending_slot (s : State) (link : Link) : (s.finishSending link).slot = s.slot :=
  State.finishSending_frame s link .slot (by decide)

@[simp] theorem State.finishSending_ctrl (s : State) (link : Link) : (s.finishSending link).ctrl = s.ctrl :=
  State.finishSending_frame s link .ctrl (by decide)

@[simp] theorem State.finishSending_demand (s : State) (link : Link) : (s.finishSending link).demand = s.demand :=
  State.finishSending_frame s link .demand (by decide)

@[simp] theorem State.finishSending_joint (s : State) (link : Link) : (s.finishSending link).joint = s.joint :=
  State.finishSending_frame s link .joint (by decide)

@[simp] theorem State.finishSending_wheel (s : State) (link : Link) : (s.finishSending link).wheel = s.wheel :=
  State.finishSending_frame s link .wheel (by decide)

@[simp] theorem State.finishSending_drive (s : State) (link : Link) : (s.finishSending link).drive = s.drive :=
  State.finishSending_frame s link .drive (by decide)

@[simp] theorem State.finishSending_table (s : State) (link : Link) : (s.finishSending link).table = s.table :=
  State.finishSending_frame s link .table (by decide)

@[simp] theorem State.finishSending_events (s : State) (link : Link) : (s.finishSending link).events = s.events :=
  State.finishSending_frame s link .events (by decide)

@[simp] theorem State.finishSending_inputs (s : State) (link : Link) : (s.finishSending link).inputs = s.inputs :=
  State.finishSending_frame s link .inputs (by decide)

@[simp] theorem State.finishSending_lamp (s : State) (link : Link) : (s.finishSending link).lamp = s.lamp :=
  State.finishSending_frame s link .lamp (by decide)

@[simp] theorem State.finishSending_pending (s : State) (link : Link) : (s.finishSending link).pending = s.pending :=
  State.finishSending_frame s link .pending (by decide)

@[simp] theorem State.finishSending_params (s : State) (link : Link) : (s.finishSending link).params = s.params :=
  State.params_congr (State.finishSending_table s link)

@[simp] theorem State.finishSending_isEnd (s : State) (link : Link) : (s.finishSending link).isEnd = s.isEnd :=
  State.isEnd_congr (State.finishSending_power s link)

@[simp] theorem State.finishSending_released (s : State) (link : Link) : (s.finishSending link).released = s.released :=
  State.released_congr (State.finishSending_power s link)

theorem State.latchInbound_frame (s : State) (f : Frame) : State.SameOutside [.slot, .ctrl, .demand, .drive, .events] s (s.latchInbound f) := by
  intro b hb
  unfold State.latchInbound
  cases b <;> simp only [State.sameBlock] <;> first | (simp at hb; done) | (repeat' split) <;> simp

@[simp] theorem State.latchInbound_power (s : State) (f : Frame) : (s.latchInbound f).power = s.power :=
  State.latchInbound_frame s f .power (by decide)

@[simp] theorem State.latchInbound_line (s : State) (f : Frame) : (s.latchInbound f).line = s.line :=
  State.latchInbound_frame s f .line (by decide)

@[simp] theorem State.latchInbound_joint (s : State) (f : Frame) : (s.latchInbound f).joint = s.joint :=
  State.latchInbound_frame s f .joint (by decide)

@[simp] theorem State.latchInbound_wheel (s : State) (f : Frame) : (s.latchInbound f).wheel = s.wheel :=
  State.latchInbound_frame s f .wheel (by decide)

@[simp] theorem State.latchInbound_table (s : State) (f : Frame) : (s.latchInbound f).table = s.table :=
  State.latchInbound_frame s f .table (by decide)

@[simp] theorem State.latchInbound_inputs (s : State) (f : Frame) : (s.latchInbound f).inputs = s.inputs :=
  State.latchInbound_frame s f .inputs (by decide)

@[simp] theorem State.latchInbound_lamp (s : State) (f : Frame) : (s.latchInbound f).lamp = s.lamp :=
  State.latchInbound_frame s f .lamp (by decide)

@[simp] theorem State.latchInbound_pending (s : State) (f : Frame) : (s.latchInbound f).pending = s.pending :=
  State.latchInbound_frame s f .pending (by decide)

@[simp] theorem State.latchInbound_params (s : State) (f : Frame) : (s.latchInbound f).params = s.params :=
  State.params_congr (State.latchInbound_table s f)

@[simp] theorem State.latchInbound_isEnd (s : State) (f : Frame) : (s.latchInbound f).isEnd = s.isEnd :=
  State.isEnd_congr (State.latchInbound_power s f)

@[simp] theorem State.latchInbound_released (s : State) (f : Frame) : (s.latchInbound f).released = s.released :=
  State.released_congr (State.latchInbound_power s f)

theorem State.acceptReturn_frame (s : State) (f : Frame) : State.SameOutside [.line, .slot, .ctrl, .demand, .drive, .events] s (s.acceptReturn f) := by
  intro b hb
  unfold State.acceptReturn
  cases b <;> simp only [State.sameBlock] <;> first | (simp at hb; done) | simp

@[simp] theorem State.acceptReturn_power (s : State) (f : Frame) : (s.acceptReturn f).power = s.power :=
  State.acceptReturn_frame s f .power (by decide)

@[simp] theorem State.acceptReturn_joint (s : State) (f : Frame) : (s.acceptReturn f).joint = s.joint :=
  State.acceptReturn_frame s f .joint (by decide)

@[simp] theorem State.acceptReturn_wheel (s : State) (f : Frame) : (s.acceptReturn f).wheel = s.wheel :=
  State.acceptReturn_frame s f .wheel (by decide)

@[simp] theorem State.acceptReturn_table (s : State) (f : Frame) : (s.acceptReturn f).table = s.table :=
  State.acceptReturn_frame s f .table (by decide)

@[simp] theorem State.acceptReturn_inputs (s : State) (f : Frame) : (s.acceptReturn f).inputs = s.inputs :=
  State.acceptReturn_frame s f .inputs (by decide)

@[simp] theorem State.acceptReturn_lamp (s : State) (f : Frame) : (s.acceptReturn f).lamp = s.lamp :=
  State.acceptReturn_frame s f .lamp (by decide)

@[simp] theorem State.acceptReturn_pending (s : State) (f : Frame) : (s.acceptReturn f).pending = s.pending :=
  State.acceptReturn_frame s f .pending (by decide)

@[simp] theorem State.acceptReturn_params (s : State) (f : Frame) : (s.acceptReturn f).params = s.params :=
  State.params_congr (State.acceptReturn_table s f)

@[simp] theorem State.acceptReturn_isEnd (s : State) (f : Frame) : (s.acceptReturn f).isEnd = s.isEnd :=
  State.isEnd_congr (State.acceptReturn_power s f)

@[simp] theorem State.acceptReturn_released (s : State) (f : Frame) : (s.acceptReturn f).released = s.released :=
  State.released_congr (State.acceptReturn_power s f)

theorem State.takeInbound_frame (s : State) (f : Frame) : State.SameOutside [.line, .slot, .ctrl, .demand, .drive, .events] s (s.takeInbound f) := by
  intro b hb
  unfold State.takeInbound
  cases b <;> simp only [State.sameBlock] <;> first | (simp at hb; done) | (repeat' split) <;> simp

@[simp] theorem State.takeInbound_power (s : State) (f : Frame) : (s.takeInbound f).power = s.power :=
  State.takeInbound_frame s f .power (by decide)

@[simp] theorem State.takeInbound_joint (s : State) (f : Frame) : (s.takeInbound f).joint = s.joint :=
  State.takeInbound_frame s f .joint (by decide)

@[simp] theorem State.takeInbound_wheel (s : State) (f : Frame) : (s.takeInbound f).wheel = s.wheel :=
  State.takeInbound_frame s f .wheel (by decide)

@[simp] theorem State.takeInbound_table (s : State) (f : Frame) : (s.takeInbound f).table = s.table :=
  State.takeInbound_frame s f .table (by decide)

@[simp] theorem State.takeInbound_inputs (s : State) (f : Frame) : (s.takeInbound f).inputs = s.inputs :=
  State.takeInbound_frame s f .inputs (by decide)

@[simp] theorem State.takeInbound_lamp (s : State) (f : Frame) : (s.takeInbound f).lamp = s.lamp :=
  State.takeInbound_frame s f .lamp (by decide)

@[simp] theorem State.takeInbound_pending (s : State) (f : Frame) : (s.takeInbound f).pending = s.pending :=
  State.takeInbound_frame s f .pending (by decide)

@[simp] theorem State.takeInbound_params (s : State) (f : Frame) : (s.takeInbound f).params = s.params :=
  State.params_congr (State.takeInbound_table s f)

@[simp] theorem State.takeInbound_isEnd (s : State) (f : Frame) : (s.takeInbound f).isEnd = s.isEnd :=
  State.isEnd_congr (State.takeInbound_power s f)

@[simp] theorem State.takeInbound_released (s : State) (f : Frame) : (s.takeInbound f).released = s.released :=
  State.released_congr (State.takeInbound_power s f)

theorem State.expireFrameTimer_frame (s : State) : State.SameOutside [.line, .ctrl, .demand, .drive, .events] s (s.expireFrameTimer) := by
  intro b hb
  unfold State.expireFrameTimer
  cases b <;> simp only [State.sameBlock] <;> first | (simp at hb; done) | simp

@[simp] theorem State.expireFrameTimer_power (s : State) : (s.expireFrameTimer).power = s.power :=
  State.expireFrameTimer_frame s .power (by decide)

@[simp] theorem State.expireFrameTimer_slot (s : State) : (s.expireFrameTimer).slot = s.slot :=
  State.expireFrameTimer_frame s .slot (by decide)

@[simp] theorem State.expireFrameTimer_joint (s : State) : (s.expireFrameTimer).joint = s.joint :=
  State.expireFrameTimer_frame s .joint (by decide)

@[simp] theorem State.expireFrameTimer_wheel (s : State) : (s.expireFrameTimer).wheel = s.wheel :=
  State.expireFrameTimer_frame s .wheel (by decide)

@[simp] theorem State.expireFrameTimer_table (s : State) : (s.expireFrameTimer).table = s.table :=
  State.expireFrameTimer_frame s .table (by decide)

@[simp] theorem State.expireFrameTimer_inputs (s : State) : (s.expireFrameTimer).inputs = s.inputs :=
  State.expireFrameTimer_frame s .inputs (by decide)

@[simp] theorem State.expireFrameTimer_lamp (s : State) : (s.expireFrameTimer).lamp = s.lamp :=
  State.expireFrameTimer_frame s .lamp (by decide)

@[simp] theorem State.expireFrameTimer_pending (s : State) : (s.expireFrameTimer).pending = s.pending :=
  State.expireFrameTimer_frame s .pending (by decide)

@[simp] theorem State.expireFrameTimer_params (s : State) : (s.expireFrameTimer).params = s.params :=
  State.params_congr (State.expireFrameTimer_table s)

@[simp] theorem State.expireFrameTimer_isEnd (s : State) : (s.expireFrameTimer).isEnd = s.isEnd :=
  State.isEnd_congr (State.expireFrameTimer_power s)

@[simp] theorem State.expireFrameTimer_released (s : State) : (s.expireFrameTimer).released = s.released :=
  State.released_congr (State.expireFrameTimer_power s)

/-! ## The stages -/

theorem State.jointAtSwap_frame (s : State) : State.SameOutside [.joint] s (s.jointAtSwap) := by
  intro b hb
  unfold State.jointAtSwap
  cases b <;> simp only [State.sameBlock] <;> first | (simp at hb; done) | (repeat' split) <;> simp

@[simp] theorem State.jointAtSwap_power (s : State) : (s.jointAtSwap).power = s.power :=
  State.jointAtSwap_frame s .power (by decide)

@[simp] theorem State.jointAtSwap_line (s : State) : (s.jointAtSwap).line = s.line :=
  State.jointAtSwap_frame s .line (by decide)

@[simp] theorem State.jointAtSwap_slot (s : State) : (s.jointAtSwap).slot = s.slot :=
  State.jointAtSwap_frame s .slot (by decide)

@[simp] theorem State.jointAtSwap_ctrl (s : State) : (s.jointAtSwap).ctrl = s.ctrl :=
  State.jointAtSwap_frame s .ctrl (by decide)

@[simp] theorem State.jointAtSwap_demand (s : State) : (s.jointAtSwap).demand = s.demand :=
  State.jointAtSwap_frame s .demand (by decide)

@[simp] theorem State.jointAtSwap_wheel (s : State) : (s.jointAtSwap).wheel = s.wheel :=
  State.jointAtSwap_frame s .wheel (by decide)

@[simp] theorem State.jointAtSwap_drive (s : State) : (s.jointAtSwap).drive = s.drive :=
  State.jointAtSwap_frame s .drive (by decide)

@[simp] theorem State.jointAtSwap_table (s : State) : (s.jointAtSwap).table = s.table :=
  State.jointAtSwap_frame s .table (by decide)

@[simp] theorem State.jointAtSwap_events (s : State) : (s.jointAtSwap).events = s.events :=
  State.jointAtSwap_frame s .events (by decide)

@[simp] theorem State.jointAtSwap_inputs (s : State) : (s.jointAtSwap).inputs = s.inputs :=
  State.jointAtSwap_frame s .inputs (by decide)

@[simp] theorem State.jointAtSwap_lamp (s : State) : (s.jointAtSwap).lamp = s.lamp :=
  State.jointAtSwap_frame s .lamp (by decide)

@[simp] theorem State.jointAtSwap_pending (s : State) : (s.jointAtSwap).pending = s.pending :=
  State.jointAtSwap_frame s .pending (by decide)

@[simp] theorem State.jointAtSwap_params (s : State) : (s.jointAtSwap).params = s.params :=
  State.params_congr (State.jointAtSwap_table s)

@[simp] theorem State.jointAtSwap_isEnd (s : State) : (s.jointAtSwap).isEnd = s.isEnd :=
  State.isEnd_congr (State.jointAtSwap_power s)

@[simp] theorem State.jointAtSwap_released (s : State) : (s.jointAtSwap).released = s.released :=
  State.released_congr (State.jointAtSwap_power s)

theorem State.wheelAtSwap_frame (s : State) (old : Params) : State.SameOutside [.wheel] s (s.wheelAtSwap old) := by
  intro b hb
  unfold State.wheelAtSwap
  cases b <;> simp only [State.sameBlock] <;> first | (simp at hb; done) | (repeat' split) <;> simp

@[simp] theorem State.wheelAtSwap_power (s : State) (old : Params) : (s.wheelAtSwap old).power = s.power :=
  State.wheelAtSwap_frame s old .power (by decide)

@[simp] theorem State.wheelAtSwap_line (s : State) (old : Params) : (s.wheelAtSwap old).line = s.line :=
  State.wheelAtSwap_frame s old .line (by decide)

@[simp] theorem State.wheelAtSwap_slot (s : State) (old : Params) : (s.wheelAtSwap old).slot = s.slot :=
  State.wheelAtSwap_frame s old .slot (by decide)

@[simp] theorem State.wheelAtSwap_ctrl (s : State) (old : Params) : (s.wheelAtSwap old).ctrl = s.ctrl :=
  State.wheelAtSwap_frame s old .ctrl (by decide)

@[simp] theorem State.wheelAtSwap_demand (s : State) (old : Params) : (s.wheelAtSwap old).demand = s.demand :=
  State.wheelAtSwap_frame s old .demand (by decide)

@[simp] theorem State.wheelAtSwap_joint (s : State) (old : Params) : (s.wheelAtSwap old).joint = s.joint :=
  State.wheelAtSwap_frame s old .joint (by decide)

@[simp] theorem State.wheelAtSwap_drive (s : State) (old : Params) : (s.wheelAtSwap old).drive = s.drive :=
  State.wheelAtSwap_frame s old .drive (by decide)

@[simp] theorem State.wheelAtSwap_table (s : State) (old : Params) : (s.wheelAtSwap old).table = s.table :=
  State.wheelAtSwap_frame s old .table (by decide)

@[simp] theorem State.wheelAtSwap_events (s : State) (old : Params) : (s.wheelAtSwap old).events = s.events :=
  State.wheelAtSwap_frame s old .events (by decide)

@[simp] theorem State.wheelAtSwap_inputs (s : State) (old : Params) : (s.wheelAtSwap old).inputs = s.inputs :=
  State.wheelAtSwap_frame s old .inputs (by decide)

@[simp] theorem State.wheelAtSwap_lamp (s : State) (old : Params) : (s.wheelAtSwap old).lamp = s.lamp :=
  State.wheelAtSwap_frame s old .lamp (by decide)

@[simp] theorem State.wheelAtSwap_pending (s : State) (old : Params) : (s.wheelAtSwap old).pending = s.pending :=
  State.wheelAtSwap_frame s old .pending (by decide)

@[simp] theorem State.wheelAtSwap_params (s : State) (old : Params) : (s.wheelAtSwap old).params = s.params :=
  State.params_congr (State.wheelAtSwap_table s old)

@[simp] theorem State.wheelAtSwap_isEnd (s : State) (old : Params) : (s.wheelAtSwap old).isEnd = s.isEnd :=
  State.isEnd_congr (State.wheelAtSwap_power s old)

@[simp] theorem State.wheelAtSwap_released (s : State) (old : Params) : (s.wheelAtSwap old).released = s.released :=
  State.released_congr (State.wheelAtSwap_power s old)

theorem State.driveAtSwap_frame (s : State) (old : Params) : State.SameOutside [.demand, .drive, .events] s (s.driveAtSwap old) := by
  intro b hb
  unfold State.driveAtSwap
  cases b <;> simp only [State.sameBlock] <;> first | (simp at hb; done) | (repeat' split) <;> simp

@[simp] theorem State.driveAtSwap_power (s : State) (old : Params) : (s.driveAtSwap old).power = s.power :=
  State.driveAtSwap_frame s old .power (by decide)

@[simp] theorem State.driveAtSwap_line (s : State) (old : Params) : (s.driveAtSwap old).line = s.line :=
  State.driveAtSwap_frame s old .line (by decide)

@[simp] theorem State.driveAtSwap_slot (s : State) (old : Params) : (s.driveAtSwap old).slot = s.slot :=
  State.driveAtSwap_frame s old .slot (by decide)

@[simp] theorem State.driveAtSwap_ctrl (s : State) (old : Params) : (s.driveAtSwap old).ctrl = s.ctrl :=
  State.driveAtSwap_frame s old .ctrl (by decide)

@[simp] theorem State.driveAtSwap_joint (s : State) (old : Params) : (s.driveAtSwap old).joint = s.joint :=
  State.driveAtSwap_frame s old .joint (by decide)

@[simp] theorem State.driveAtSwap_wheel (s : State) (old : Params) : (s.driveAtSwap old).wheel = s.wheel :=
  State.driveAtSwap_frame s old .wheel (by decide)

@[simp] theorem State.driveAtSwap_table (s : State) (old : Params) : (s.driveAtSwap old).table = s.table :=
  State.driveAtSwap_frame s old .table (by decide)

@[simp] theorem State.driveAtSwap_inputs (s : State) (old : Params) : (s.driveAtSwap old).inputs = s.inputs :=
  State.driveAtSwap_frame s old .inputs (by decide)

@[simp] theorem State.driveAtSwap_lamp (s : State) (old : Params) : (s.driveAtSwap old).lamp = s.lamp :=
  State.driveAtSwap_frame s old .lamp (by decide)

@[simp] theorem State.driveAtSwap_pending (s : State) (old : Params) : (s.driveAtSwap old).pending = s.pending :=
  State.driveAtSwap_frame s old .pending (by decide)

@[simp] theorem State.driveAtSwap_params (s : State) (old : Params) : (s.driveAtSwap old).params = s.params :=
  State.params_congr (State.driveAtSwap_table s old)

@[simp] theorem State.driveAtSwap_isEnd (s : State) (old : Params) : (s.driveAtSwap old).isEnd = s.isEnd :=
  State.isEnd_congr (State.driveAtSwap_power s old)

@[simp] theorem State.driveAtSwap_released (s : State) (old : Params) : (s.driveAtSwap old).released = s.released :=
  State.released_congr (State.driveAtSwap_power s old)

theorem State.lineAtSwap_frame (s : State) : State.SameOutside [.line, .ctrl, .demand, .drive, .events] s (s.lineAtSwap) := by
  intro b hb
  unfold State.lineAtSwap
  cases b <;> simp only [State.sameBlock] <;> first | (simp at hb; done) | (repeat' split) <;> simp

@[simp] theorem State.lineAtSwap_power (s : State) : (s.lineAtSwap).power = s.power :=
  State.lineAtSwap_frame s .power (by decide)

@[simp] theorem State.lineAtSwap_slot (s : State) : (s.lineAtSwap).slot = s.slot :=
  State.lineAtSwap_frame s .slot (by decide)

@[simp] theorem State.lineAtSwap_joint (s : State) : (s.lineAtSwap).joint = s.joint :=
  State.lineAtSwap_frame s .joint (by decide)

@[simp] theorem State.lineAtSwap_wheel (s : State) : (s.lineAtSwap).wheel = s.wheel :=
  State.lineAtSwap_frame s .wheel (by decide)

@[simp] theorem State.lineAtSwap_table (s : State) : (s.lineAtSwap).table = s.table :=
  State.lineAtSwap_frame s .table (by decide)

@[simp] theorem State.lineAtSwap_inputs (s : State) : (s.lineAtSwap).inputs = s.inputs :=
  State.lineAtSwap_frame s .inputs (by decide)

@[simp] theorem State.lineAtSwap_lamp (s : State) : (s.lineAtSwap).lamp = s.lamp :=
  State.lineAtSwap_frame s .lamp (by decide)

@[simp] theorem State.lineAtSwap_pending (s : State) : (s.lineAtSwap).pending = s.pending :=
  State.lineAtSwap_frame s .pending (by decide)

@[simp] theorem State.lineAtSwap_params (s : State) : (s.lineAtSwap).params = s.params :=
  State.params_congr (State.lineAtSwap_table s)

@[simp] theorem State.lineAtSwap_isEnd (s : State) : (s.lineAtSwap).isEnd = s.isEnd :=
  State.isEnd_congr (State.lineAtSwap_power s)

@[simp] theorem State.lineAtSwap_released (s : State) : (s.lineAtSwap).released = s.released :=
  State.released_congr (State.lineAtSwap_power s)

theorem State.swapBanks_frame (s : State) : State.SameOutside [.slot, .table, .events] s (s.swapBanks) := by
  intro b hb
  unfold State.swapBanks
  cases b <;> simp only [State.sameBlock] <;> first | (simp at hb; done) | simp

@[simp] theorem State.swapBanks_power (s : State) : (s.swapBanks).power = s.power :=
  State.swapBanks_frame s .power (by decide)

@[simp] theorem State.swapBanks_line (s : State) : (s.swapBanks).line = s.line :=
  State.swapBanks_frame s .line (by decide)

@[simp] theorem State.swapBanks_ctrl (s : State) : (s.swapBanks).ctrl = s.ctrl :=
  State.swapBanks_frame s .ctrl (by decide)

@[simp] theorem State.swapBanks_demand (s : State) : (s.swapBanks).demand = s.demand :=
  State.swapBanks_frame s .demand (by decide)

@[simp] theorem State.swapBanks_joint (s : State) : (s.swapBanks).joint = s.joint :=
  State.swapBanks_frame s .joint (by decide)

@[simp] theorem State.swapBanks_wheel (s : State) : (s.swapBanks).wheel = s.wheel :=
  State.swapBanks_frame s .wheel (by decide)

@[simp] theorem State.swapBanks_drive (s : State) : (s.swapBanks).drive = s.drive :=
  State.swapBanks_frame s .drive (by decide)

@[simp] theorem State.swapBanks_inputs (s : State) : (s.swapBanks).inputs = s.inputs :=
  State.swapBanks_frame s .inputs (by decide)

@[simp] theorem State.swapBanks_lamp (s : State) : (s.swapBanks).lamp = s.lamp :=
  State.swapBanks_frame s .lamp (by decide)

@[simp] theorem State.swapBanks_pending (s : State) : (s.swapBanks).pending = s.pending :=
  State.swapBanks_frame s .pending (by decide)

@[simp] theorem State.swapBanks_isEnd (s : State) : (s.swapBanks).isEnd = s.isEnd :=
  State.isEnd_congr (State.swapBanks_power s)

@[simp] theorem State.swapBanks_released (s : State) : (s.swapBanks).released = s.released :=
  State.released_congr (State.swapBanks_power s)

theorem State.profileSwap_frame (s : State) : State.SameOutside [.line, .slot, .ctrl, .demand, .joint, .wheel, .drive, .table, .events, .inputs] s (s.profileSwap) := by
  intro b hb
  unfold State.profileSwap
  cases b <;> simp only [State.sameBlock] <;> first | (simp at hb; done) | simp

@[simp] theorem State.profileSwap_power (s : State) : (s.profileSwap).power = s.power :=
  State.profileSwap_frame s .power (by decide)

@[simp] theorem State.profileSwap_lamp (s : State) : (s.profileSwap).lamp = s.lamp :=
  State.profileSwap_frame s .lamp (by decide)

@[simp] theorem State.profileSwap_pending (s : State) : (s.profileSwap).pending = s.pending :=
  State.profileSwap_frame s .pending (by decide)

@[simp] theorem State.profileSwap_isEnd (s : State) : (s.profileSwap).isEnd = s.isEnd :=
  State.isEnd_congr (State.profileSwap_power s)

@[simp] theorem State.profileSwap_released (s : State) : (s.profileSwap).released = s.released :=
  State.released_congr (State.profileSwap_power s)

theorem State.lampAtFrame_frame (s : State) (seq : Word16) : State.SameOutside [.lamp] s (s.lampAtFrame seq) := by
  intro b hb
  unfold State.lampAtFrame
  cases b <;> simp only [State.sameBlock] <;> first | (simp at hb; done) | simp

@[simp] theorem State.lampAtFrame_power (s : State) (seq : Word16) : (s.lampAtFrame seq).power = s.power :=
  State.lampAtFrame_frame s seq .power (by decide)

@[simp] theorem State.lampAtFrame_line (s : State) (seq : Word16) : (s.lampAtFrame seq).line = s.line :=
  State.lampAtFrame_frame s seq .line (by decide)

@[simp] theorem State.lampAtFrame_slot (s : State) (seq : Word16) : (s.lampAtFrame seq).slot = s.slot :=
  State.lampAtFrame_frame s seq .slot (by decide)

@[simp] theorem State.lampAtFrame_ctrl (s : State) (seq : Word16) : (s.lampAtFrame seq).ctrl = s.ctrl :=
  State.lampAtFrame_frame s seq .ctrl (by decide)

@[simp] theorem State.lampAtFrame_demand (s : State) (seq : Word16) : (s.lampAtFrame seq).demand = s.demand :=
  State.lampAtFrame_frame s seq .demand (by decide)

@[simp] theorem State.lampAtFrame_joint (s : State) (seq : Word16) : (s.lampAtFrame seq).joint = s.joint :=
  State.lampAtFrame_frame s seq .joint (by decide)

@[simp] theorem State.lampAtFrame_wheel (s : State) (seq : Word16) : (s.lampAtFrame seq).wheel = s.wheel :=
  State.lampAtFrame_frame s seq .wheel (by decide)

@[simp] theorem State.lampAtFrame_drive (s : State) (seq : Word16) : (s.lampAtFrame seq).drive = s.drive :=
  State.lampAtFrame_frame s seq .drive (by decide)

@[simp] theorem State.lampAtFrame_table (s : State) (seq : Word16) : (s.lampAtFrame seq).table = s.table :=
  State.lampAtFrame_frame s seq .table (by decide)

@[simp] theorem State.lampAtFrame_events (s : State) (seq : Word16) : (s.lampAtFrame seq).events = s.events :=
  State.lampAtFrame_frame s seq .events (by decide)

@[simp] theorem State.lampAtFrame_inputs (s : State) (seq : Word16) : (s.lampAtFrame seq).inputs = s.inputs :=
  State.lampAtFrame_frame s seq .inputs (by decide)

@[simp] theorem State.lampAtFrame_pending (s : State) (seq : Word16) : (s.lampAtFrame seq).pending = s.pending :=
  State.lampAtFrame_frame s seq .pending (by decide)

@[simp] theorem State.lampAtFrame_params (s : State) (seq : Word16) : (s.lampAtFrame seq).params = s.params :=
  State.params_congr (State.lampAtFrame_table s seq)

@[simp] theorem State.lampAtFrame_isEnd (s : State) (seq : Word16) : (s.lampAtFrame seq).isEnd = s.isEnd :=
  State.isEnd_congr (State.lampAtFrame_power s seq)

@[simp] theorem State.lampAtFrame_released (s : State) (seq : Word16) : (s.lampAtFrame seq).released = s.released :=
  State.released_congr (State.lampAtFrame_power s seq)

theorem State.stageSwap_frame (s : State) (f : Frame) : State.SameOutside [.line, .slot, .ctrl, .demand, .joint, .wheel, .drive, .table, .events, .inputs, .lamp] s (s.stageSwap f) := by
  intro b hb
  unfold State.stageSwap
  cases b <;> simp only [State.sameBlock] <;> first | (simp at hb; done) | (repeat' split) <;> simp

@[simp] theorem State.stageSwap_power (s : State) (f : Frame) : (s.stageSwap f).power = s.power :=
  State.stageSwap_frame s f .power (by decide)

@[simp] theorem State.stageSwap_pending (s : State) (f : Frame) : (s.stageSwap f).pending = s.pending :=
  State.stageSwap_frame s f .pending (by decide)

@[simp] theorem State.stageSwap_isEnd (s : State) (f : Frame) : (s.stageSwap f).isEnd = s.isEnd :=
  State.isEnd_congr (State.stageSwap_power s f)

@[simp] theorem State.stageSwap_released (s : State) (f : Frame) : (s.stageSwap f).released = s.released :=
  State.released_congr (State.stageSwap_power s f)

theorem State.stageLocate_frame (s : State) (f : Frame) : State.SameOutside [.ctrl, .demand, .drive, .events] s (s.stageLocate f) := by
  intro b hb
  unfold State.stageLocate
  cases b <;> simp only [State.sameBlock] <;> first | (simp at hb; done) | (repeat' split) <;> simp

@[simp] theorem State.stageLocate_power (s : State) (f : Frame) : (s.stageLocate f).power = s.power :=
  State.stageLocate_frame s f .power (by decide)

@[simp] theorem State.stageLocate_line (s : State) (f : Frame) : (s.stageLocate f).line = s.line :=
  State.stageLocate_frame s f .line (by decide)

@[simp] theorem State.stageLocate_slot (s : State) (f : Frame) : (s.stageLocate f).slot = s.slot :=
  State.stageLocate_frame s f .slot (by decide)

@[simp] theorem State.stageLocate_joint (s : State) (f : Frame) : (s.stageLocate f).joint = s.joint :=
  State.stageLocate_frame s f .joint (by decide)

@[simp] theorem State.stageLocate_wheel (s : State) (f : Frame) : (s.stageLocate f).wheel = s.wheel :=
  State.stageLocate_frame s f .wheel (by decide)

@[simp] theorem State.stageLocate_table (s : State) (f : Frame) : (s.stageLocate f).table = s.table :=
  State.stageLocate_frame s f .table (by decide)

@[simp] theorem State.stageLocate_inputs (s : State) (f : Frame) : (s.stageLocate f).inputs = s.inputs :=
  State.stageLocate_frame s f .inputs (by decide)

@[simp] theorem State.stageLocate_lamp (s : State) (f : Frame) : (s.stageLocate f).lamp = s.lamp :=
  State.stageLocate_frame s f .lamp (by decide)

@[simp] theorem State.stageLocate_pending (s : State) (f : Frame) : (s.stageLocate f).pending = s.pending :=
  State.stageLocate_frame s f .pending (by decide)

@[simp] theorem State.stageLocate_params (s : State) (f : Frame) : (s.stageLocate f).params = s.params :=
  State.params_congr (State.stageLocate_table s f)

@[simp] theorem State.stageLocate_isEnd (s : State) (f : Frame) : (s.stageLocate f).isEnd = s.isEnd :=
  State.isEnd_congr (State.stageLocate_power s f)

@[simp] theorem State.stageLocate_released (s : State) (f : Frame) : (s.stageLocate f).released = s.released :=
  State.released_congr (State.stageLocate_power s f)

theorem State.stageCommand_frame (s : State) (f : Frame) (owned : Bool) : State.SameOutside [.slot, .ctrl, .demand, .wheel, .drive, .events] s (s.stageCommand f owned) := by
  intro b hb
  unfold State.stageCommand
  cases b <;> simp only [State.sameBlock] <;> first | (simp at hb; done) | (repeat' split) <;> simp

@[simp] theorem State.stageCommand_power (s : State) (f : Frame) (owned : Bool) : (s.stageCommand f owned).power = s.power :=
  State.stageCommand_frame s f owned .power (by decide)

@[simp] theorem State.stageCommand_line (s : State) (f : Frame) (owned : Bool) : (s.stageCommand f owned).line = s.line :=
  State.stageCommand_frame s f owned .line (by decide)

@[simp] theorem State.stageCommand_joint (s : State) (f : Frame) (owned : Bool) : (s.stageCommand f owned).joint = s.joint :=
  State.stageCommand_frame s f owned .joint (by decide)

@[simp] theorem State.stageCommand_table (s : State) (f : Frame) (owned : Bool) : (s.stageCommand f owned).table = s.table :=
  State.stageCommand_frame s f owned .table (by decide)

@[simp] theorem State.stageCommand_inputs (s : State) (f : Frame) (owned : Bool) : (s.stageCommand f owned).inputs = s.inputs :=
  State.stageCommand_frame s f owned .inputs (by decide)

@[simp] theorem State.stageCommand_lamp (s : State) (f : Frame) (owned : Bool) : (s.stageCommand f owned).lamp = s.lamp :=
  State.stageCommand_frame s f owned .lamp (by decide)

@[simp] theorem State.stageCommand_pending (s : State) (f : Frame) (owned : Bool) : (s.stageCommand f owned).pending = s.pending :=
  State.stageCommand_frame s f owned .pending (by decide)

@[simp] theorem State.stageCommand_params (s : State) (f : Frame) (owned : Bool) : (s.stageCommand f owned).params = s.params :=
  State.params_congr (State.stageCommand_table s f owned)

@[simp] theorem State.stageCommand_isEnd (s : State) (f : Frame) (owned : Bool) : (s.stageCommand f owned).isEnd = s.isEnd :=
  State.isEnd_congr (State.stageCommand_power s f owned)

@[simp] theorem State.stageCommand_released (s : State) (f : Frame) (owned : Bool) : (s.stageCommand f owned).released = s.released :=
  State.released_congr (State.stageCommand_power s f owned)

theorem State.lookupAngle_frame (s : State) (f : Frame) : State.SameOutside [.table] s (s.lookupAngle f) := by
  intro b hb
  unfold State.lookupAngle
  cases b <;> simp only [State.sameBlock] <;> first | (simp at hb; done) | (repeat' split) <;> simp

@[simp] theorem State.lookupAngle_power (s : State) (f : Frame) : (s.lookupAngle f).power = s.power :=
  State.lookupAngle_frame s f .power (by decide)

@[simp] theorem State.lookupAngle_line (s : State) (f : Frame) : (s.lookupAngle f).line = s.line :=
  State.lookupAngle_frame s f .line (by decide)

@[simp] theorem State.lookupAngle_slot (s : State) (f : Frame) : (s.lookupAngle f).slot = s.slot :=
  State.lookupAngle_frame s f .slot (by decide)

@[simp] theorem State.lookupAngle_ctrl (s : State) (f : Frame) : (s.lookupAngle f).ctrl = s.ctrl :=
  State.lookupAngle_frame s f .ctrl (by decide)

@[simp] theorem State.lookupAngle_demand (s : State) (f : Frame) : (s.lookupAngle f).demand = s.demand :=
  State.lookupAngle_frame s f .demand (by decide)

@[simp] theorem State.lookupAngle_joint (s : State) (f : Frame) : (s.lookupAngle f).joint = s.joint :=
  State.lookupAngle_frame s f .joint (by decide)

@[simp] theorem State.lookupAngle_wheel (s : State) (f : Frame) : (s.lookupAngle f).wheel = s.wheel :=
  State.lookupAngle_frame s f .wheel (by decide)

@[simp] theorem State.lookupAngle_drive (s : State) (f : Frame) : (s.lookupAngle f).drive = s.drive :=
  State.lookupAngle_frame s f .drive (by decide)

@[simp] theorem State.lookupAngle_events (s : State) (f : Frame) : (s.lookupAngle f).events = s.events :=
  State.lookupAngle_frame s f .events (by decide)

@[simp] theorem State.lookupAngle_inputs (s : State) (f : Frame) : (s.lookupAngle f).inputs = s.inputs :=
  State.lookupAngle_frame s f .inputs (by decide)

@[simp] theorem State.lookupAngle_lamp (s : State) (f : Frame) : (s.lookupAngle f).lamp = s.lamp :=
  State.lookupAngle_frame s f .lamp (by decide)

@[simp] theorem State.lookupAngle_pending (s : State) (f : Frame) : (s.lookupAngle f).pending = s.pending :=
  State.lookupAngle_frame s f .pending (by decide)

@[simp] theorem State.lookupAngle_isEnd (s : State) (f : Frame) : (s.lookupAngle f).isEnd = s.isEnd :=
  State.isEnd_congr (State.lookupAngle_power s f)

@[simp] theorem State.lookupAngle_released (s : State) (f : Frame) : (s.lookupAngle f).released = s.released :=
  State.released_congr (State.lookupAngle_power s f)

theorem State.takeValidAngle_frame (s : State) (theta : Int) : State.SameOutside [.demand, .joint, .events] s (s.takeValidAngle theta) := by
  intro b hb
  unfold State.takeValidAngle
  cases b <;> simp only [State.sameBlock] <;> first | (simp at hb; done) | simp

@[simp] theorem State.takeValidAngle_power (s : State) (theta : Int) : (s.takeValidAngle theta).power = s.power :=
  State.takeValidAngle_frame s theta .power (by decide)

@[simp] theorem State.takeValidAngle_line (s : State) (theta : Int) : (s.takeValidAngle theta).line = s.line :=
  State.takeValidAngle_frame s theta .line (by decide)

@[simp] theorem State.takeValidAngle_slot (s : State) (theta : Int) : (s.takeValidAngle theta).slot = s.slot :=
  State.takeValidAngle_frame s theta .slot (by decide)

@[simp] theorem State.takeValidAngle_ctrl (s : State) (theta : Int) : (s.takeValidAngle theta).ctrl = s.ctrl :=
  State.takeValidAngle_frame s theta .ctrl (by decide)

@[simp] theorem State.takeValidAngle_wheel (s : State) (theta : Int) : (s.takeValidAngle theta).wheel = s.wheel :=
  State.takeValidAngle_frame s theta .wheel (by decide)

@[simp] theorem State.takeValidAngle_drive (s : State) (theta : Int) : (s.takeValidAngle theta).drive = s.drive :=
  State.takeValidAngle_frame s theta .drive (by decide)

@[simp] theorem State.takeValidAngle_table (s : State) (theta : Int) : (s.takeValidAngle theta).table = s.table :=
  State.takeValidAngle_frame s theta .table (by decide)

@[simp] theorem State.takeValidAngle_inputs (s : State) (theta : Int) : (s.takeValidAngle theta).inputs = s.inputs :=
  State.takeValidAngle_frame s theta .inputs (by decide)

@[simp] theorem State.takeValidAngle_lamp (s : State) (theta : Int) : (s.takeValidAngle theta).lamp = s.lamp :=
  State.takeValidAngle_frame s theta .lamp (by decide)

@[simp] theorem State.takeValidAngle_pending (s : State) (theta : Int) : (s.takeValidAngle theta).pending = s.pending :=
  State.takeValidAngle_frame s theta .pending (by decide)

@[simp] theorem State.takeValidAngle_params (s : State) (theta : Int) : (s.takeValidAngle theta).params = s.params :=
  State.params_congr (State.takeValidAngle_table s theta)

@[simp] theorem State.takeValidAngle_isEnd (s : State) (theta : Int) : (s.takeValidAngle theta).isEnd = s.isEnd :=
  State.isEnd_congr (State.takeValidAngle_power s theta)

@[simp] theorem State.takeValidAngle_released (s : State) (theta : Int) : (s.takeValidAngle theta).released = s.released :=
  State.released_congr (State.takeValidAngle_power s theta)

theorem State.takeHeldAngle_frame (s : State) : State.SameOutside [.demand, .joint, .events] s (s.takeHeldAngle) := by
  intro b hb
  unfold State.takeHeldAngle
  cases b <;> simp only [State.sameBlock] <;> first | (simp at hb; done) | simp

@[simp] theorem State.takeHeldAngle_power (s : State) : (s.takeHeldAngle).power = s.power :=
  State.takeHeldAngle_frame s .power (by decide)

@[simp] theorem State.takeHeldAngle_line (s : State) : (s.takeHeldAngle).line = s.line :=
  State.takeHeldAngle_frame s .line (by decide)

@[simp] theorem State.takeHeldAngle_slot (s : State) : (s.takeHeldAngle).slot = s.slot :=
  State.takeHeldAngle_frame s .slot (by decide)

@[simp] theorem State.takeHeldAngle_ctrl (s : State) : (s.takeHeldAngle).ctrl = s.ctrl :=
  State.takeHeldAngle_frame s .ctrl (by decide)

@[simp] theorem State.takeHeldAngle_wheel (s : State) : (s.takeHeldAngle).wheel = s.wheel :=
  State.takeHeldAngle_frame s .wheel (by decide)

@[simp] theorem State.takeHeldAngle_drive (s : State) : (s.takeHeldAngle).drive = s.drive :=
  State.takeHeldAngle_frame s .drive (by decide)

@[simp] theorem State.takeHeldAngle_table (s : State) : (s.takeHeldAngle).table = s.table :=
  State.takeHeldAngle_frame s .table (by decide)

@[simp] theorem State.takeHeldAngle_inputs (s : State) : (s.takeHeldAngle).inputs = s.inputs :=
  State.takeHeldAngle_frame s .inputs (by decide)

@[simp] theorem State.takeHeldAngle_lamp (s : State) : (s.takeHeldAngle).lamp = s.lamp :=
  State.takeHeldAngle_frame s .lamp (by decide)

@[simp] theorem State.takeHeldAngle_pending (s : State) : (s.takeHeldAngle).pending = s.pending :=
  State.takeHeldAngle_frame s .pending (by decide)

@[simp] theorem State.takeHeldAngle_params (s : State) : (s.takeHeldAngle).params = s.params :=
  State.params_congr (State.takeHeldAngle_table s)

@[simp] theorem State.takeHeldAngle_isEnd (s : State) : (s.takeHeldAngle).isEnd = s.isEnd :=
  State.isEnd_congr (State.takeHeldAngle_power s)

@[simp] theorem State.takeHeldAngle_released (s : State) : (s.takeHeldAngle).released = s.released :=
  State.released_congr (State.takeHeldAngle_power s)

theorem State.takeJoint_frame (s : State) : State.SameOutside [.demand, .joint, .events] s (s.takeJoint) := by
  intro b hb
  unfold State.takeJoint
  cases b <;> simp only [State.sameBlock] <;> first | (simp at hb; done) | (repeat' split) <;> simp

@[simp] theorem State.takeJoint_power (s : State) : (s.takeJoint).power = s.power :=
  State.takeJoint_frame s .power (by decide)

@[simp] theorem State.takeJoint_line (s : State) : (s.takeJoint).line = s.line :=
  State.takeJoint_frame s .line (by decide)

@[simp] theorem State.takeJoint_slot (s : State) : (s.takeJoint).slot = s.slot :=
  State.takeJoint_frame s .slot (by decide)

@[simp] theorem State.takeJoint_ctrl (s : State) : (s.takeJoint).ctrl = s.ctrl :=
  State.takeJoint_frame s .ctrl (by decide)

@[simp] theorem State.takeJoint_wheel (s : State) : (s.takeJoint).wheel = s.wheel :=
  State.takeJoint_frame s .wheel (by decide)

@[simp] theorem State.takeJoint_drive (s : State) : (s.takeJoint).drive = s.drive :=
  State.takeJoint_frame s .drive (by decide)

@[simp] theorem State.takeJoint_table (s : State) : (s.takeJoint).table = s.table :=
  State.takeJoint_frame s .table (by decide)

@[simp] theorem State.takeJoint_inputs (s : State) : (s.takeJoint).inputs = s.inputs :=
  State.takeJoint_frame s .inputs (by decide)

@[simp] theorem State.takeJoint_lamp (s : State) : (s.takeJoint).lamp = s.lamp :=
  State.takeJoint_frame s .lamp (by decide)

@[simp] theorem State.takeJoint_pending (s : State) : (s.takeJoint).pending = s.pending :=
  State.takeJoint_frame s .pending (by decide)

@[simp] theorem State.takeJoint_params (s : State) : (s.takeJoint).params = s.params :=
  State.params_congr (State.takeJoint_table s)

@[simp] theorem State.takeJoint_isEnd (s : State) : (s.takeJoint).isEnd = s.isEnd :=
  State.isEnd_congr (State.takeJoint_power s)

@[simp] theorem State.takeJoint_released (s : State) : (s.takeJoint).released = s.released :=
  State.released_congr (State.takeJoint_power s)

theorem State.inputStep_frame (s : State) (f : Frame) : State.SameOutside [.demand, .joint, .table, .events] s (s.inputStep f) := by
  intro b hb
  unfold State.inputStep
  cases b <;> simp only [State.sameBlock] <;> first | (simp at hb; done) | simp

@[simp] theorem State.inputStep_power (s : State) (f : Frame) : (s.inputStep f).power = s.power :=
  State.inputStep_frame s f .power (by decide)

@[simp] theorem State.inputStep_line (s : State) (f : Frame) : (s.inputStep f).line = s.line :=
  State.inputStep_frame s f .line (by decide)

@[simp] theorem State.inputStep_slot (s : State) (f : Frame) : (s.inputStep f).slot = s.slot :=
  State.inputStep_frame s f .slot (by decide)

@[simp] theorem State.inputStep_ctrl (s : State) (f : Frame) : (s.inputStep f).ctrl = s.ctrl :=
  State.inputStep_frame s f .ctrl (by decide)

@[simp] theorem State.inputStep_wheel (s : State) (f : Frame) : (s.inputStep f).wheel = s.wheel :=
  State.inputStep_frame s f .wheel (by decide)

@[simp] theorem State.inputStep_drive (s : State) (f : Frame) : (s.inputStep f).drive = s.drive :=
  State.inputStep_frame s f .drive (by decide)

@[simp] theorem State.inputStep_inputs (s : State) (f : Frame) : (s.inputStep f).inputs = s.inputs :=
  State.inputStep_frame s f .inputs (by decide)

@[simp] theorem State.inputStep_lamp (s : State) (f : Frame) : (s.inputStep f).lamp = s.lamp :=
  State.inputStep_frame s f .lamp (by decide)

@[simp] theorem State.inputStep_pending (s : State) (f : Frame) : (s.inputStep f).pending = s.pending :=
  State.inputStep_frame s f .pending (by decide)

@[simp] theorem State.inputStep_isEnd (s : State) (f : Frame) : (s.inputStep f).isEnd = s.isEnd :=
  State.isEnd_congr (State.inputStep_power s f)

@[simp] theorem State.inputStep_released (s : State) (f : Frame) : (s.inputStep f).released = s.released :=
  State.released_congr (State.inputStep_power s f)

theorem State.raiseMotion_frame (s : State) (m : MotionResult) : State.SameOutside [.demand, .events] s (s.raiseMotion m) := by
  intro b hb
  unfold State.raiseMotion
  cases b <;> simp only [State.sameBlock] <;> first | (simp at hb; done) | simp

@[simp] theorem State.raiseMotion_power (s : State) (m : MotionResult) : (s.raiseMotion m).power = s.power :=
  State.raiseMotion_frame s m .power (by decide)

@[simp] theorem State.raiseMotion_line (s : State) (m : MotionResult) : (s.raiseMotion m).line = s.line :=
  State.raiseMotion_frame s m .line (by decide)

@[simp] theorem State.raiseMotion_slot (s : State) (m : MotionResult) : (s.raiseMotion m).slot = s.slot :=
  State.raiseMotion_frame s m .slot (by decide)

@[simp] theorem State.raiseMotion_ctrl (s : State) (m : MotionResult) : (s.raiseMotion m).ctrl = s.ctrl :=
  State.raiseMotion_frame s m .ctrl (by decide)

@[simp] theorem State.raiseMotion_joint (s : State) (m : MotionResult) : (s.raiseMotion m).joint = s.joint :=
  State.raiseMotion_frame s m .joint (by decide)

@[simp] theorem State.raiseMotion_wheel (s : State) (m : MotionResult) : (s.raiseMotion m).wheel = s.wheel :=
  State.raiseMotion_frame s m .wheel (by decide)

@[simp] theorem State.raiseMotion_drive (s : State) (m : MotionResult) : (s.raiseMotion m).drive = s.drive :=
  State.raiseMotion_frame s m .drive (by decide)

@[simp] theorem State.raiseMotion_table (s : State) (m : MotionResult) : (s.raiseMotion m).table = s.table :=
  State.raiseMotion_frame s m .table (by decide)

@[simp] theorem State.raiseMotion_inputs (s : State) (m : MotionResult) : (s.raiseMotion m).inputs = s.inputs :=
  State.raiseMotion_frame s m .inputs (by decide)

@[simp] theorem State.raiseMotion_lamp (s : State) (m : MotionResult) : (s.raiseMotion m).lamp = s.lamp :=
  State.raiseMotion_frame s m .lamp (by decide)

@[simp] theorem State.raiseMotion_pending (s : State) (m : MotionResult) : (s.raiseMotion m).pending = s.pending :=
  State.raiseMotion_frame s m .pending (by decide)

@[simp] theorem State.raiseMotion_params (s : State) (m : MotionResult) : (s.raiseMotion m).params = s.params :=
  State.params_congr (State.raiseMotion_table s m)

@[simp] theorem State.raiseMotion_isEnd (s : State) (m : MotionResult) : (s.raiseMotion m).isEnd = s.isEnd :=
  State.isEnd_congr (State.raiseMotion_power s m)

@[simp] theorem State.raiseMotion_released (s : State) (m : MotionResult) : (s.raiseMotion m).released = s.released :=
  State.released_congr (State.raiseMotion_power s m)

theorem State.takeRequests_frame (s : State) (r : TripRequests) : State.SameOutside [.ctrl, .demand, .drive, .events] s (s.takeRequests r) := by
  intro b hb
  unfold State.takeRequests
  cases b <;> simp only [State.sameBlock] <;> first | (simp at hb; done) | (repeat' split) <;> simp

@[simp] theorem State.takeRequests_power (s : State) (r : TripRequests) : (s.takeRequests r).power = s.power :=
  State.takeRequests_frame s r .power (by decide)

@[simp] theorem State.takeRequests_line (s : State) (r : TripRequests) : (s.takeRequests r).line = s.line :=
  State.takeRequests_frame s r .line (by decide)

@[simp] theorem State.takeRequests_slot (s : State) (r : TripRequests) : (s.takeRequests r).slot = s.slot :=
  State.takeRequests_frame s r .slot (by decide)

@[simp] theorem State.takeRequests_joint (s : State) (r : TripRequests) : (s.takeRequests r).joint = s.joint :=
  State.takeRequests_frame s r .joint (by decide)

@[simp] theorem State.takeRequests_wheel (s : State) (r : TripRequests) : (s.takeRequests r).wheel = s.wheel :=
  State.takeRequests_frame s r .wheel (by decide)

@[simp] theorem State.takeRequests_table (s : State) (r : TripRequests) : (s.takeRequests r).table = s.table :=
  State.takeRequests_frame s r .table (by decide)

@[simp] theorem State.takeRequests_inputs (s : State) (r : TripRequests) : (s.takeRequests r).inputs = s.inputs :=
  State.takeRequests_frame s r .inputs (by decide)

@[simp] theorem State.takeRequests_lamp (s : State) (r : TripRequests) : (s.takeRequests r).lamp = s.lamp :=
  State.takeRequests_frame s r .lamp (by decide)

@[simp] theorem State.takeRequests_pending (s : State) (r : TripRequests) : (s.takeRequests r).pending = s.pending :=
  State.takeRequests_frame s r .pending (by decide)

@[simp] theorem State.takeRequests_params (s : State) (r : TripRequests) : (s.takeRequests r).params = s.params :=
  State.params_congr (State.takeRequests_table s r)

@[simp] theorem State.takeRequests_isEnd (s : State) (r : TripRequests) : (s.takeRequests r).isEnd = s.isEnd :=
  State.isEnd_congr (State.takeRequests_power s r)

@[simp] theorem State.takeRequests_released (s : State) (r : TripRequests) : (s.takeRequests r).released = s.released :=
  State.released_congr (State.takeRequests_power s r)

theorem State.haltToReverse_frame (s : State) : State.SameOutside [.drive] s (s.haltToReverse) := by
  intro b hb
  unfold State.haltToReverse
  cases b <;> simp only [State.sameBlock] <;> first | (simp at hb; done) | (repeat' split) <;> simp

@[simp] theorem State.haltToReverse_power (s : State) : (s.haltToReverse).power = s.power :=
  State.haltToReverse_frame s .power (by decide)

@[simp] theorem State.haltToReverse_line (s : State) : (s.haltToReverse).line = s.line :=
  State.haltToReverse_frame s .line (by decide)

@[simp] theorem State.haltToReverse_slot (s : State) : (s.haltToReverse).slot = s.slot :=
  State.haltToReverse_frame s .slot (by decide)

@[simp] theorem State.haltToReverse_ctrl (s : State) : (s.haltToReverse).ctrl = s.ctrl :=
  State.haltToReverse_frame s .ctrl (by decide)

@[simp] theorem State.haltToReverse_demand (s : State) : (s.haltToReverse).demand = s.demand :=
  State.haltToReverse_frame s .demand (by decide)

@[simp] theorem State.haltToReverse_joint (s : State) : (s.haltToReverse).joint = s.joint :=
  State.haltToReverse_frame s .joint (by decide)

@[simp] theorem State.haltToReverse_wheel (s : State) : (s.haltToReverse).wheel = s.wheel :=
  State.haltToReverse_frame s .wheel (by decide)

@[simp] theorem State.haltToReverse_table (s : State) : (s.haltToReverse).table = s.table :=
  State.haltToReverse_frame s .table (by decide)

@[simp] theorem State.haltToReverse_events (s : State) : (s.haltToReverse).events = s.events :=
  State.haltToReverse_frame s .events (by decide)

@[simp] theorem State.haltToReverse_inputs (s : State) : (s.haltToReverse).inputs = s.inputs :=
  State.haltToReverse_frame s .inputs (by decide)

@[simp] theorem State.haltToReverse_lamp (s : State) : (s.haltToReverse).lamp = s.lamp :=
  State.haltToReverse_frame s .lamp (by decide)

@[simp] theorem State.haltToReverse_pending (s : State) : (s.haltToReverse).pending = s.pending :=
  State.haltToReverse_frame s .pending (by decide)

@[simp] theorem State.haltToReverse_params (s : State) : (s.haltToReverse).params = s.params :=
  State.params_congr (State.haltToReverse_table s)

@[simp] theorem State.haltToReverse_isEnd (s : State) : (s.haltToReverse).isEnd = s.isEnd :=
  State.isEnd_congr (State.haltToReverse_power s)

@[simp] theorem State.haltToReverse_released (s : State) : (s.haltToReverse).released = s.released :=
  State.released_congr (State.haltToReverse_power s)

theorem State.changeDirection_frame (s : State) : State.SameOutside [.drive] s (s.changeDirection) := by
  intro b hb
  unfold State.changeDirection
  cases b <;> simp only [State.sameBlock] <;> first | (simp at hb; done) | (repeat' split) <;> simp

@[simp] theorem State.changeDirection_power (s : State) : (s.changeDirection).power = s.power :=
  State.changeDirection_frame s .power (by decide)

@[simp] theorem State.changeDirection_line (s : State) : (s.changeDirection).line = s.line :=
  State.changeDirection_frame s .line (by decide)

@[simp] theorem State.changeDirection_slot (s : State) : (s.changeDirection).slot = s.slot :=
  State.changeDirection_frame s .slot (by decide)

@[simp] theorem State.changeDirection_ctrl (s : State) : (s.changeDirection).ctrl = s.ctrl :=
  State.changeDirection_frame s .ctrl (by decide)

@[simp] theorem State.changeDirection_demand (s : State) : (s.changeDirection).demand = s.demand :=
  State.changeDirection_frame s .demand (by decide)

@[simp] theorem State.changeDirection_joint (s : State) : (s.changeDirection).joint = s.joint :=
  State.changeDirection_frame s .joint (by decide)

@[simp] theorem State.changeDirection_wheel (s : State) : (s.changeDirection).wheel = s.wheel :=
  State.changeDirection_frame s .wheel (by decide)

@[simp] theorem State.changeDirection_table (s : State) : (s.changeDirection).table = s.table :=
  State.changeDirection_frame s .table (by decide)

@[simp] theorem State.changeDirection_events (s : State) : (s.changeDirection).events = s.events :=
  State.changeDirection_frame s .events (by decide)

@[simp] theorem State.changeDirection_inputs (s : State) : (s.changeDirection).inputs = s.inputs :=
  State.changeDirection_frame s .inputs (by decide)

@[simp] theorem State.changeDirection_lamp (s : State) : (s.changeDirection).lamp = s.lamp :=
  State.changeDirection_frame s .lamp (by decide)

@[simp] theorem State.changeDirection_pending (s : State) : (s.changeDirection).pending = s.pending :=
  State.changeDirection_frame s .pending (by decide)

@[simp] theorem State.changeDirection_params (s : State) : (s.changeDirection).params = s.params :=
  State.params_congr (State.changeDirection_table s)

@[simp] theorem State.changeDirection_isEnd (s : State) : (s.changeDirection).isEnd = s.isEnd :=
  State.isEnd_congr (State.changeDirection_power s)

@[simp] theorem State.changeDirection_released (s : State) : (s.changeDirection).released = s.released :=
  State.released_congr (State.changeDirection_power s)

theorem State.settleDemand_frame (s : State) (candidate : Nat) : State.SameOutside [.demand] s (s.settleDemand candidate) := by
  intro b hb
  unfold State.settleDemand
  cases b <;> simp only [State.sameBlock] <;> first | (simp at hb; done) | (repeat' split) <;> simp

@[simp] theorem State.settleDemand_power (s : State) (candidate : Nat) : (s.settleDemand candidate).power = s.power :=
  State.settleDemand_frame s candidate .power (by decide)

@[simp] theorem State.settleDemand_line (s : State) (candidate : Nat) : (s.settleDemand candidate).line = s.line :=
  State.settleDemand_frame s candidate .line (by decide)

@[simp] theorem State.settleDemand_slot (s : State) (candidate : Nat) : (s.settleDemand candidate).slot = s.slot :=
  State.settleDemand_frame s candidate .slot (by decide)

@[simp] theorem State.settleDemand_ctrl (s : State) (candidate : Nat) : (s.settleDemand candidate).ctrl = s.ctrl :=
  State.settleDemand_frame s candidate .ctrl (by decide)

@[simp] theorem State.settleDemand_joint (s : State) (candidate : Nat) : (s.settleDemand candidate).joint = s.joint :=
  State.settleDemand_frame s candidate .joint (by decide)

@[simp] theorem State.settleDemand_wheel (s : State) (candidate : Nat) : (s.settleDemand candidate).wheel = s.wheel :=
  State.settleDemand_frame s candidate .wheel (by decide)

@[simp] theorem State.settleDemand_drive (s : State) (candidate : Nat) : (s.settleDemand candidate).drive = s.drive :=
  State.settleDemand_frame s candidate .drive (by decide)

@[simp] theorem State.settleDemand_table (s : State) (candidate : Nat) : (s.settleDemand candidate).table = s.table :=
  State.settleDemand_frame s candidate .table (by decide)

@[simp] theorem State.settleDemand_events (s : State) (candidate : Nat) : (s.settleDemand candidate).events = s.events :=
  State.settleDemand_frame s candidate .events (by decide)

@[simp] theorem State.settleDemand_inputs (s : State) (candidate : Nat) : (s.settleDemand candidate).inputs = s.inputs :=
  State.settleDemand_frame s candidate .inputs (by decide)

@[simp] theorem State.settleDemand_lamp (s : State) (candidate : Nat) : (s.settleDemand candidate).lamp = s.lamp :=
  State.settleDemand_frame s candidate .lamp (by decide)

@[simp] theorem State.settleDemand_pending (s : State) (candidate : Nat) : (s.settleDemand candidate).pending = s.pending :=
  State.settleDemand_frame s candidate .pending (by decide)

@[simp] theorem State.settleDemand_params (s : State) (candidate : Nat) : (s.settleDemand candidate).params = s.params :=
  State.params_congr (State.settleDemand_table s candidate)

@[simp] theorem State.settleDemand_isEnd (s : State) (candidate : Nat) : (s.settleDemand candidate).isEnd = s.isEnd :=
  State.isEnd_congr (State.settleDemand_power s candidate)

@[simp] theorem State.settleDemand_released (s : State) (candidate : Nat) : (s.settleDemand candidate).released = s.released :=
  State.released_congr (State.settleDemand_power s candidate)

theorem State.settleContribution_frame (s : State) (candidate : Nat) : State.SameOutside [.demand] s (s.settleContribution candidate) := by
  intro b hb
  unfold State.settleContribution
  cases b <;> simp only [State.sameBlock] <;> first | (simp at hb; done) | (repeat' split) <;> simp

@[simp] theorem State.settleContribution_power (s : State) (candidate : Nat) : (s.settleContribution candidate).power = s.power :=
  State.settleContribution_frame s candidate .power (by decide)

@[simp] theorem State.settleContribution_line (s : State) (candidate : Nat) : (s.settleContribution candidate).line = s.line :=
  State.settleContribution_frame s candidate .line (by decide)

@[simp] theorem State.settleContribution_slot (s : State) (candidate : Nat) : (s.settleContribution candidate).slot = s.slot :=
  State.settleContribution_frame s candidate .slot (by decide)

@[simp] theorem State.settleContribution_ctrl (s : State) (candidate : Nat) : (s.settleContribution candidate).ctrl = s.ctrl :=
  State.settleContribution_frame s candidate .ctrl (by decide)

@[simp] theorem State.settleContribution_joint (s : State) (candidate : Nat) : (s.settleContribution candidate).joint = s.joint :=
  State.settleContribution_frame s candidate .joint (by decide)

@[simp] theorem State.settleContribution_wheel (s : State) (candidate : Nat) : (s.settleContribution candidate).wheel = s.wheel :=
  State.settleContribution_frame s candidate .wheel (by decide)

@[simp] theorem State.settleContribution_drive (s : State) (candidate : Nat) : (s.settleContribution candidate).drive = s.drive :=
  State.settleContribution_frame s candidate .drive (by decide)

@[simp] theorem State.settleContribution_table (s : State) (candidate : Nat) : (s.settleContribution candidate).table = s.table :=
  State.settleContribution_frame s candidate .table (by decide)

@[simp] theorem State.settleContribution_events (s : State) (candidate : Nat) : (s.settleContribution candidate).events = s.events :=
  State.settleContribution_frame s candidate .events (by decide)

@[simp] theorem State.settleContribution_inputs (s : State) (candidate : Nat) : (s.settleContribution candidate).inputs = s.inputs :=
  State.settleContribution_frame s candidate .inputs (by decide)

@[simp] theorem State.settleContribution_lamp (s : State) (candidate : Nat) : (s.settleContribution candidate).lamp = s.lamp :=
  State.settleContribution_frame s candidate .lamp (by decide)

@[simp] theorem State.settleContribution_pending (s : State) (candidate : Nat) : (s.settleContribution candidate).pending = s.pending :=
  State.settleContribution_frame s candidate .pending (by decide)

@[simp] theorem State.settleContribution_params (s : State) (candidate : Nat) : (s.settleContribution candidate).params = s.params :=
  State.params_congr (State.settleContribution_table s candidate)

@[simp] theorem State.settleContribution_isEnd (s : State) (candidate : Nat) : (s.settleContribution candidate).isEnd = s.isEnd :=
  State.isEnd_congr (State.settleContribution_power s candidate)

@[simp] theorem State.settleContribution_released (s : State) (candidate : Nat) : (s.settleContribution candidate).released = s.released :=
  State.released_congr (State.settleContribution_power s candidate)

theorem State.actDuty_frame (s : State) : State.SameOutside [.demand, .drive, .events] s (s.actDuty) := by
  intro b hb
  unfold State.actDuty
  cases b <;> simp only [State.sameBlock] <;> first | (simp at hb; done) | (repeat' split) <;> simp

@[simp] theorem State.actDuty_power (s : State) : (s.actDuty).power = s.power :=
  State.actDuty_frame s .power (by decide)

@[simp] theorem State.actDuty_line (s : State) : (s.actDuty).line = s.line :=
  State.actDuty_frame s .line (by decide)

@[simp] theorem State.actDuty_slot (s : State) : (s.actDuty).slot = s.slot :=
  State.actDuty_frame s .slot (by decide)

@[simp] theorem State.actDuty_ctrl (s : State) : (s.actDuty).ctrl = s.ctrl :=
  State.actDuty_frame s .ctrl (by decide)

@[simp] theorem State.actDuty_joint (s : State) : (s.actDuty).joint = s.joint :=
  State.actDuty_frame s .joint (by decide)

@[simp] theorem State.actDuty_wheel (s : State) : (s.actDuty).wheel = s.wheel :=
  State.actDuty_frame s .wheel (by decide)

@[simp] theorem State.actDuty_table (s : State) : (s.actDuty).table = s.table :=
  State.actDuty_frame s .table (by decide)

@[simp] theorem State.actDuty_inputs (s : State) : (s.actDuty).inputs = s.inputs :=
  State.actDuty_frame s .inputs (by decide)

@[simp] theorem State.actDuty_lamp (s : State) : (s.actDuty).lamp = s.lamp :=
  State.actDuty_frame s .lamp (by decide)

@[simp] theorem State.actDuty_pending (s : State) : (s.actDuty).pending = s.pending :=
  State.actDuty_frame s .pending (by decide)

@[simp] theorem State.actDuty_params (s : State) : (s.actDuty).params = s.params :=
  State.params_congr (State.actDuty_table s)

@[simp] theorem State.actDuty_isEnd (s : State) : (s.actDuty).isEnd = s.isEnd :=
  State.isEnd_congr (State.actDuty_power s)

@[simp] theorem State.actDuty_released (s : State) : (s.actDuty).released = s.released :=
  State.released_congr (State.actDuty_power s)

theorem State.actRate_frame (s : State) : State.SameOutside [.demand, .drive, .events] s (s.actRate) := by
  intro b hb
  unfold State.actRate
  cases b <;> simp only [State.sameBlock] <;> first | (simp at hb; done) | (repeat' split) <;> simp

@[simp] theorem State.actRate_power (s : State) : (s.actRate).power = s.power :=
  State.actRate_frame s .power (by decide)

@[simp] theorem State.actRate_line (s : State) : (s.actRate).line = s.line :=
  State.actRate_frame s .line (by decide)

@[simp] theorem State.actRate_slot (s : State) : (s.actRate).slot = s.slot :=
  State.actRate_frame s .slot (by decide)

@[simp] theorem State.actRate_ctrl (s : State) : (s.actRate).ctrl = s.ctrl :=
  State.actRate_frame s .ctrl (by decide)

@[simp] theorem State.actRate_joint (s : State) : (s.actRate).joint = s.joint :=
  State.actRate_frame s .joint (by decide)

@[simp] theorem State.actRate_wheel (s : State) : (s.actRate).wheel = s.wheel :=
  State.actRate_frame s .wheel (by decide)

@[simp] theorem State.actRate_table (s : State) : (s.actRate).table = s.table :=
  State.actRate_frame s .table (by decide)

@[simp] theorem State.actRate_inputs (s : State) : (s.actRate).inputs = s.inputs :=
  State.actRate_frame s .inputs (by decide)

@[simp] theorem State.actRate_lamp (s : State) : (s.actRate).lamp = s.lamp :=
  State.actRate_frame s .lamp (by decide)

@[simp] theorem State.actRate_pending (s : State) : (s.actRate).pending = s.pending :=
  State.actRate_frame s .pending (by decide)

@[simp] theorem State.actRate_params (s : State) : (s.actRate).params = s.params :=
  State.params_congr (State.actRate_table s)

@[simp] theorem State.actRate_isEnd (s : State) : (s.actRate).isEnd = s.isEnd :=
  State.isEnd_congr (State.actRate_power s)

@[simp] theorem State.actRate_released (s : State) : (s.actRate).released = s.released :=
  State.released_congr (State.actRate_power s)

theorem State.actOnDemand_frame (s : State) : State.SameOutside [.demand, .drive, .events] s (s.actOnDemand) := by
  intro b hb
  unfold State.actOnDemand
  cases b <;> simp only [State.sameBlock] <;> first | (simp at hb; done) | (repeat' split) <;> simp

@[simp] theorem State.actOnDemand_power (s : State) : (s.actOnDemand).power = s.power :=
  State.actOnDemand_frame s .power (by decide)

@[simp] theorem State.actOnDemand_line (s : State) : (s.actOnDemand).line = s.line :=
  State.actOnDemand_frame s .line (by decide)

@[simp] theorem State.actOnDemand_slot (s : State) : (s.actOnDemand).slot = s.slot :=
  State.actOnDemand_frame s .slot (by decide)

@[simp] theorem State.actOnDemand_ctrl (s : State) : (s.actOnDemand).ctrl = s.ctrl :=
  State.actOnDemand_frame s .ctrl (by decide)

@[simp] theorem State.actOnDemand_joint (s : State) : (s.actOnDemand).joint = s.joint :=
  State.actOnDemand_frame s .joint (by decide)

@[simp] theorem State.actOnDemand_wheel (s : State) : (s.actOnDemand).wheel = s.wheel :=
  State.actOnDemand_frame s .wheel (by decide)

@[simp] theorem State.actOnDemand_table (s : State) : (s.actOnDemand).table = s.table :=
  State.actOnDemand_frame s .table (by decide)

@[simp] theorem State.actOnDemand_inputs (s : State) : (s.actOnDemand).inputs = s.inputs :=
  State.actOnDemand_frame s .inputs (by decide)

@[simp] theorem State.actOnDemand_lamp (s : State) : (s.actOnDemand).lamp = s.lamp :=
  State.actOnDemand_frame s .lamp (by decide)

@[simp] theorem State.actOnDemand_pending (s : State) : (s.actOnDemand).pending = s.pending :=
  State.actOnDemand_frame s .pending (by decide)

@[simp] theorem State.actOnDemand_params (s : State) : (s.actOnDemand).params = s.params :=
  State.params_congr (State.actOnDemand_table s)

@[simp] theorem State.actOnDemand_isEnd (s : State) : (s.actOnDemand).isEnd = s.isEnd :=
  State.isEnd_congr (State.actOnDemand_power s)

@[simp] theorem State.actOnDemand_released (s : State) : (s.actOnDemand).released = s.released :=
  State.released_congr (State.actOnDemand_power s)

theorem State.handDemandOver_frame (s : State) (f : Frame) (candidate : Nat) : State.SameOutside [.demand, .drive, .events] s (s.handDemandOver f candidate) := by
  intro b hb
  unfold State.handDemandOver
  cases b <;> simp only [State.sameBlock] <;> first | (simp at hb; done) | simp

@[simp] theorem State.handDemandOver_power (s : State) (f : Frame) (candidate : Nat) : (s.handDemandOver f candidate).power = s.power :=
  State.handDemandOver_frame s f candidate .power (by decide)

@[simp] theorem State.handDemandOver_line (s : State) (f : Frame) (candidate : Nat) : (s.handDemandOver f candidate).line = s.line :=
  State.handDemandOver_frame s f candidate .line (by decide)

@[simp] theorem State.handDemandOver_slot (s : State) (f : Frame) (candidate : Nat) : (s.handDemandOver f candidate).slot = s.slot :=
  State.handDemandOver_frame s f candidate .slot (by decide)

@[simp] theorem State.handDemandOver_ctrl (s : State) (f : Frame) (candidate : Nat) : (s.handDemandOver f candidate).ctrl = s.ctrl :=
  State.handDemandOver_frame s f candidate .ctrl (by decide)

@[simp] theorem State.handDemandOver_joint (s : State) (f : Frame) (candidate : Nat) : (s.handDemandOver f candidate).joint = s.joint :=
  State.handDemandOver_frame s f candidate .joint (by decide)

@[simp] theorem State.handDemandOver_wheel (s : State) (f : Frame) (candidate : Nat) : (s.handDemandOver f candidate).wheel = s.wheel :=
  State.handDemandOver_frame s f candidate .wheel (by decide)

@[simp] theorem State.handDemandOver_table (s : State) (f : Frame) (candidate : Nat) : (s.handDemandOver f candidate).table = s.table :=
  State.handDemandOver_frame s f candidate .table (by decide)

@[simp] theorem State.handDemandOver_inputs (s : State) (f : Frame) (candidate : Nat) : (s.handDemandOver f candidate).inputs = s.inputs :=
  State.handDemandOver_frame s f candidate .inputs (by decide)

@[simp] theorem State.handDemandOver_lamp (s : State) (f : Frame) (candidate : Nat) : (s.handDemandOver f candidate).lamp = s.lamp :=
  State.handDemandOver_frame s f candidate .lamp (by decide)

@[simp] theorem State.handDemandOver_pending (s : State) (f : Frame) (candidate : Nat) : (s.handDemandOver f candidate).pending = s.pending :=
  State.handDemandOver_frame s f candidate .pending (by decide)

@[simp] theorem State.handDemandOver_params (s : State) (f : Frame) (candidate : Nat) : (s.handDemandOver f candidate).params = s.params :=
  State.params_congr (State.handDemandOver_table s f candidate)

@[simp] theorem State.handDemandOver_isEnd (s : State) (f : Frame) (candidate : Nat) : (s.handDemandOver f candidate).isEnd = s.isEnd :=
  State.isEnd_congr (State.handDemandOver_power s f candidate)

@[simp] theorem State.handDemandOver_released (s : State) (f : Frame) (candidate : Nat) : (s.handDemandOver f candidate).released = s.released :=
  State.released_congr (State.handDemandOver_power s f candidate)

theorem State.beginMotion_frame (s : State) (f : Frame) : State.SameOutside [.ctrl, .demand, .drive, .events] s (s.beginMotion f) := by
  intro b hb
  unfold State.beginMotion
  cases b <;> simp only [State.sameBlock] <;> first | (simp at hb; done) | simp

@[simp] theorem State.beginMotion_power (s : State) (f : Frame) : (s.beginMotion f).power = s.power :=
  State.beginMotion_frame s f .power (by decide)

@[simp] theorem State.beginMotion_line (s : State) (f : Frame) : (s.beginMotion f).line = s.line :=
  State.beginMotion_frame s f .line (by decide)

@[simp] theorem State.beginMotion_slot (s : State) (f : Frame) : (s.beginMotion f).slot = s.slot :=
  State.beginMotion_frame s f .slot (by decide)

@[simp] theorem State.beginMotion_joint (s : State) (f : Frame) : (s.beginMotion f).joint = s.joint :=
  State.beginMotion_frame s f .joint (by decide)

@[simp] theorem State.beginMotion_wheel (s : State) (f : Frame) : (s.beginMotion f).wheel = s.wheel :=
  State.beginMotion_frame s f .wheel (by decide)

@[simp] theorem State.beginMotion_table (s : State) (f : Frame) : (s.beginMotion f).table = s.table :=
  State.beginMotion_frame s f .table (by decide)

@[simp] theorem State.beginMotion_inputs (s : State) (f : Frame) : (s.beginMotion f).inputs = s.inputs :=
  State.beginMotion_frame s f .inputs (by decide)

@[simp] theorem State.beginMotion_lamp (s : State) (f : Frame) : (s.beginMotion f).lamp = s.lamp :=
  State.beginMotion_frame s f .lamp (by decide)

@[simp] theorem State.beginMotion_pending (s : State) (f : Frame) : (s.beginMotion f).pending = s.pending :=
  State.beginMotion_frame s f .pending (by decide)

@[simp] theorem State.beginMotion_params (s : State) (f : Frame) : (s.beginMotion f).params = s.params :=
  State.params_congr (State.beginMotion_table s f)

@[simp] theorem State.beginMotion_isEnd (s : State) (f : Frame) : (s.beginMotion f).isEnd = s.isEnd :=
  State.isEnd_congr (State.beginMotion_power s f)

@[simp] theorem State.beginMotion_released (s : State) (f : Frame) : (s.beginMotion f).released = s.released :=
  State.released_congr (State.beginMotion_power s f)

theorem State.stageMotion_frame (s : State) (f : Frame) : State.SameOutside [.ctrl, .demand, .joint, .drive, .table, .events] s (s.stageMotion f) := by
  intro b hb
  unfold State.stageMotion
  cases b <;> simp only [State.sameBlock] <;> first | (simp at hb; done) | simp

@[simp] theorem State.stageMotion_power (s : State) (f : Frame) : (s.stageMotion f).power = s.power :=
  State.stageMotion_frame s f .power (by decide)

@[simp] theorem State.stageMotion_line (s : State) (f : Frame) : (s.stageMotion f).line = s.line :=
  State.stageMotion_frame s f .line (by decide)

@[simp] theorem State.stageMotion_slot (s : State) (f : Frame) : (s.stageMotion f).slot = s.slot :=
  State.stageMotion_frame s f .slot (by decide)

@[simp] theorem State.stageMotion_wheel (s : State) (f : Frame) : (s.stageMotion f).wheel = s.wheel :=
  State.stageMotion_frame s f .wheel (by decide)

@[simp] theorem State.stageMotion_inputs (s : State) (f : Frame) : (s.stageMotion f).inputs = s.inputs :=
  State.stageMotion_frame s f .inputs (by decide)

@[simp] theorem State.stageMotion_lamp (s : State) (f : Frame) : (s.stageMotion f).lamp = s.lamp :=
  State.stageMotion_frame s f .lamp (by decide)

@[simp] theorem State.stageMotion_pending (s : State) (f : Frame) : (s.stageMotion f).pending = s.pending :=
  State.stageMotion_frame s f .pending (by decide)

@[simp] theorem State.stageMotion_isEnd (s : State) (f : Frame) : (s.stageMotion f).isEnd = s.isEnd :=
  State.isEnd_congr (State.stageMotion_power s f)

@[simp] theorem State.stageMotion_released (s : State) (f : Frame) : (s.stageMotion f).released = s.released :=
  State.released_congr (State.stageMotion_power s f)

theorem State.stageChain_frame (s : State) (f : Frame) : State.SameOutside [.slot, .ctrl, .demand, .drive, .events] s (s.stageChain f) := by
  intro b hb
  unfold State.stageChain
  cases b <;> simp only [State.sameBlock] <;> first | (simp at hb; done) | (repeat' split) <;> simp

@[simp] theorem State.stageChain_power (s : State) (f : Frame) : (s.stageChain f).power = s.power :=
  State.stageChain_frame s f .power (by decide)

@[simp] theorem State.stageChain_line (s : State) (f : Frame) : (s.stageChain f).line = s.line :=
  State.stageChain_frame s f .line (by decide)

@[simp] theorem State.stageChain_joint (s : State) (f : Frame) : (s.stageChain f).joint = s.joint :=
  State.stageChain_frame s f .joint (by decide)

@[simp] theorem State.stageChain_wheel (s : State) (f : Frame) : (s.stageChain f).wheel = s.wheel :=
  State.stageChain_frame s f .wheel (by decide)

@[simp] theorem State.stageChain_table (s : State) (f : Frame) : (s.stageChain f).table = s.table :=
  State.stageChain_frame s f .table (by decide)

@[simp] theorem State.stageChain_inputs (s : State) (f : Frame) : (s.stageChain f).inputs = s.inputs :=
  State.stageChain_frame s f .inputs (by decide)

@[simp] theorem State.stageChain_lamp (s : State) (f : Frame) : (s.stageChain f).lamp = s.lamp :=
  State.stageChain_frame s f .lamp (by decide)

@[simp] theorem State.stageChain_pending (s : State) (f : Frame) : (s.stageChain f).pending = s.pending :=
  State.stageChain_frame s f .pending (by decide)

@[simp] theorem State.stageChain_params (s : State) (f : Frame) : (s.stageChain f).params = s.params :=
  State.params_congr (State.stageChain_table s f)

@[simp] theorem State.stageChain_isEnd (s : State) (f : Frame) : (s.stageChain f).isEnd = s.isEnd :=
  State.isEnd_congr (State.stageChain_power s f)

@[simp] theorem State.stageChain_released (s : State) (f : Frame) : (s.stageChain f).released = s.released :=
  State.released_congr (State.stageChain_power s f)

theorem State.turnAround_frame (s : State) (ceiling : Nat) (chainOpen : Bool) : State.SameOutside [.slot, .ctrl, .demand, .drive, .events] s (s.turnAround ceiling chainOpen) := by
  intro b hb
  unfold State.turnAround
  cases b <;> simp only [State.sameBlock] <;> first | (simp at hb; done) | (repeat' split) <;> simp

@[simp] theorem State.turnAround_power (s : State) (ceiling : Nat) (chainOpen : Bool) : (s.turnAround ceiling chainOpen).power = s.power :=
  State.turnAround_frame s ceiling chainOpen .power (by decide)

@[simp] theorem State.turnAround_line (s : State) (ceiling : Nat) (chainOpen : Bool) : (s.turnAround ceiling chainOpen).line = s.line :=
  State.turnAround_frame s ceiling chainOpen .line (by decide)

@[simp] theorem State.turnAround_joint (s : State) (ceiling : Nat) (chainOpen : Bool) : (s.turnAround ceiling chainOpen).joint = s.joint :=
  State.turnAround_frame s ceiling chainOpen .joint (by decide)

@[simp] theorem State.turnAround_wheel (s : State) (ceiling : Nat) (chainOpen : Bool) : (s.turnAround ceiling chainOpen).wheel = s.wheel :=
  State.turnAround_frame s ceiling chainOpen .wheel (by decide)

@[simp] theorem State.turnAround_table (s : State) (ceiling : Nat) (chainOpen : Bool) : (s.turnAround ceiling chainOpen).table = s.table :=
  State.turnAround_frame s ceiling chainOpen .table (by decide)

@[simp] theorem State.turnAround_inputs (s : State) (ceiling : Nat) (chainOpen : Bool) : (s.turnAround ceiling chainOpen).inputs = s.inputs :=
  State.turnAround_frame s ceiling chainOpen .inputs (by decide)

@[simp] theorem State.turnAround_lamp (s : State) (ceiling : Nat) (chainOpen : Bool) : (s.turnAround ceiling chainOpen).lamp = s.lamp :=
  State.turnAround_frame s ceiling chainOpen .lamp (by decide)

@[simp] theorem State.turnAround_pending (s : State) (ceiling : Nat) (chainOpen : Bool) : (s.turnAround ceiling chainOpen).pending = s.pending :=
  State.turnAround_frame s ceiling chainOpen .pending (by decide)

@[simp] theorem State.turnAround_params (s : State) (ceiling : Nat) (chainOpen : Bool) : (s.turnAround ceiling chainOpen).params = s.params :=
  State.params_congr (State.turnAround_table s ceiling chainOpen)

@[simp] theorem State.turnAround_isEnd (s : State) (ceiling : Nat) (chainOpen : Bool) : (s.turnAround ceiling chainOpen).isEnd = s.isEnd :=
  State.isEnd_congr (State.turnAround_power s ceiling chainOpen)

@[simp] theorem State.turnAround_released (s : State) (ceiling : Nat) (chainOpen : Bool) : (s.turnAround ceiling chainOpen).released = s.released :=
  State.released_congr (State.turnAround_power s ceiling chainOpen)

theorem State.throughMotion_frame (s : State) (f : Frame) : State.SameOutside [.line, .slot, .ctrl, .demand, .joint, .wheel, .drive, .table, .events, .inputs, .lamp] s (s.throughMotion f) := by
  intro b hb
  unfold State.throughMotion
  cases b <;> simp only [State.sameBlock] <;> first | (simp at hb; done) | simp

@[simp] theorem State.throughMotion_power (s : State) (f : Frame) : (s.throughMotion f).power = s.power :=
  State.throughMotion_frame s f .power (by decide)

@[simp] theorem State.throughMotion_pending (s : State) (f : Frame) : (s.throughMotion f).pending = s.pending :=
  State.throughMotion_frame s f .pending (by decide)

@[simp] theorem State.throughMotion_isEnd (s : State) (f : Frame) : (s.throughMotion f).isEnd = s.isEnd :=
  State.isEnd_congr (State.throughMotion_power s f)

@[simp] theorem State.throughMotion_released (s : State) (f : Frame) : (s.throughMotion f).released = s.released :=
  State.released_congr (State.throughMotion_power s f)

/-! ## Sensors, timers and the tick -/

theorem State.startMeasurement_frame (s : State) : State.SameOutside [.joint] s (s.startMeasurement) := by
  intro b hb
  unfold State.startMeasurement
  cases b <;> simp only [State.sameBlock] <;> first | (simp at hb; done) | simp

@[simp] theorem State.startMeasurement_power (s : State) : (s.startMeasurement).power = s.power :=
  State.startMeasurement_frame s .power (by decide)

@[simp] theorem State.startMeasurement_line (s : State) : (s.startMeasurement).line = s.line :=
  State.startMeasurement_frame s .line (by decide)

@[simp] theorem State.startMeasurement_slot (s : State) : (s.startMeasurement).slot = s.slot :=
  State.startMeasurement_frame s .slot (by decide)

@[simp] theorem State.startMeasurement_ctrl (s : State) : (s.startMeasurement).ctrl = s.ctrl :=
  State.startMeasurement_frame s .ctrl (by decide)

@[simp] theorem State.startMeasurement_demand (s : State) : (s.startMeasurement).demand = s.demand :=
  State.startMeasurement_frame s .demand (by decide)

@[simp] theorem State.startMeasurement_wheel (s : State) : (s.startMeasurement).wheel = s.wheel :=
  State.startMeasurement_frame s .wheel (by decide)

@[simp] theorem State.startMeasurement_drive (s : State) : (s.startMeasurement).drive = s.drive :=
  State.startMeasurement_frame s .drive (by decide)

@[simp] theorem State.startMeasurement_table (s : State) : (s.startMeasurement).table = s.table :=
  State.startMeasurement_frame s .table (by decide)

@[simp] theorem State.startMeasurement_events (s : State) : (s.startMeasurement).events = s.events :=
  State.startMeasurement_frame s .events (by decide)

@[simp] theorem State.startMeasurement_inputs (s : State) : (s.startMeasurement).inputs = s.inputs :=
  State.startMeasurement_frame s .inputs (by decide)

@[simp] theorem State.startMeasurement_lamp (s : State) : (s.startMeasurement).lamp = s.lamp :=
  State.startMeasurement_frame s .lamp (by decide)

@[simp] theorem State.startMeasurement_pending (s : State) : (s.startMeasurement).pending = s.pending :=
  State.startMeasurement_frame s .pending (by decide)

@[simp] theorem State.startMeasurement_params (s : State) : (s.startMeasurement).params = s.params :=
  State.params_congr (State.startMeasurement_table s)

@[simp] theorem State.startMeasurement_isEnd (s : State) : (s.startMeasurement).isEnd = s.isEnd :=
  State.isEnd_congr (State.startMeasurement_power s)

@[simp] theorem State.startMeasurement_released (s : State) : (s.startMeasurement).released = s.released :=
  State.released_congr (State.startMeasurement_power s)

theorem State.fallingEdge_frame (s : State) (samples : Nat) : State.SameOutside [.joint] s (s.fallingEdge samples) := by
  intro b hb
  unfold State.fallingEdge
  cases b <;> simp only [State.sameBlock] <;> first | (simp at hb; done) | (repeat' split) <;> simp

@[simp] theorem State.fallingEdge_power (s : State) (samples : Nat) : (s.fallingEdge samples).power = s.power :=
  State.fallingEdge_frame s samples .power (by decide)

@[simp] theorem State.fallingEdge_line (s : State) (samples : Nat) : (s.fallingEdge samples).line = s.line :=
  State.fallingEdge_frame s samples .line (by decide)

@[simp] theorem State.fallingEdge_slot (s : State) (samples : Nat) : (s.fallingEdge samples).slot = s.slot :=
  State.fallingEdge_frame s samples .slot (by decide)

@[simp] theorem State.fallingEdge_ctrl (s : State) (samples : Nat) : (s.fallingEdge samples).ctrl = s.ctrl :=
  State.fallingEdge_frame s samples .ctrl (by decide)

@[simp] theorem State.fallingEdge_demand (s : State) (samples : Nat) : (s.fallingEdge samples).demand = s.demand :=
  State.fallingEdge_frame s samples .demand (by decide)

@[simp] theorem State.fallingEdge_wheel (s : State) (samples : Nat) : (s.fallingEdge samples).wheel = s.wheel :=
  State.fallingEdge_frame s samples .wheel (by decide)

@[simp] theorem State.fallingEdge_drive (s : State) (samples : Nat) : (s.fallingEdge samples).drive = s.drive :=
  State.fallingEdge_frame s samples .drive (by decide)

@[simp] theorem State.fallingEdge_table (s : State) (samples : Nat) : (s.fallingEdge samples).table = s.table :=
  State.fallingEdge_frame s samples .table (by decide)

@[simp] theorem State.fallingEdge_events (s : State) (samples : Nat) : (s.fallingEdge samples).events = s.events :=
  State.fallingEdge_frame s samples .events (by decide)

@[simp] theorem State.fallingEdge_inputs (s : State) (samples : Nat) : (s.fallingEdge samples).inputs = s.inputs :=
  State.fallingEdge_frame s samples .inputs (by decide)

@[simp] theorem State.fallingEdge_lamp (s : State) (samples : Nat) : (s.fallingEdge samples).lamp = s.lamp :=
  State.fallingEdge_frame s samples .lamp (by decide)

@[simp] theorem State.fallingEdge_pending (s : State) (samples : Nat) : (s.fallingEdge samples).pending = s.pending :=
  State.fallingEdge_frame s samples .pending (by decide)

@[simp] theorem State.fallingEdge_params (s : State) (samples : Nat) : (s.fallingEdge samples).params = s.params :=
  State.params_congr (State.fallingEdge_table s samples)

@[simp] theorem State.fallingEdge_isEnd (s : State) (samples : Nat) : (s.fallingEdge samples).isEnd = s.isEnd :=
  State.isEnd_congr (State.fallingEdge_power s samples)

@[simp] theorem State.fallingEdge_released (s : State) (samples : Nat) : (s.fallingEdge samples).released = s.released :=
  State.released_congr (State.fallingEdge_power s samples)

theorem State.completeReading_frame (s : State) (period high : Nat) : State.SameOutside [.joint] s (s.completeReading period high) := by
  intro b hb
  unfold State.completeReading
  cases b <;> simp only [State.sameBlock] <;> first | (simp at hb; done) | simp

@[simp] theorem State.completeReading_power (s : State) (period high : Nat) : (s.completeReading period high).power = s.power :=
  State.completeReading_frame s period high .power (by decide)

@[simp] theorem State.completeReading_line (s : State) (period high : Nat) : (s.completeReading period high).line = s.line :=
  State.completeReading_frame s period high .line (by decide)

@[simp] theorem State.completeReading_slot (s : State) (period high : Nat) : (s.completeReading period high).slot = s.slot :=
  State.completeReading_frame s period high .slot (by decide)

@[simp] theorem State.completeReading_ctrl (s : State) (period high : Nat) : (s.completeReading period high).ctrl = s.ctrl :=
  State.completeReading_frame s period high .ctrl (by decide)

@[simp] theorem State.completeReading_demand (s : State) (period high : Nat) : (s.completeReading period high).demand = s.demand :=
  State.completeReading_frame s period high .demand (by decide)

@[simp] theorem State.completeReading_wheel (s : State) (period high : Nat) : (s.completeReading period high).wheel = s.wheel :=
  State.completeReading_frame s period high .wheel (by decide)

@[simp] theorem State.completeReading_drive (s : State) (period high : Nat) : (s.completeReading period high).drive = s.drive :=
  State.completeReading_frame s period high .drive (by decide)

@[simp] theorem State.completeReading_table (s : State) (period high : Nat) : (s.completeReading period high).table = s.table :=
  State.completeReading_frame s period high .table (by decide)

@[simp] theorem State.completeReading_events (s : State) (period high : Nat) : (s.completeReading period high).events = s.events :=
  State.completeReading_frame s period high .events (by decide)

@[simp] theorem State.completeReading_inputs (s : State) (period high : Nat) : (s.completeReading period high).inputs = s.inputs :=
  State.completeReading_frame s period high .inputs (by decide)

@[simp] theorem State.completeReading_lamp (s : State) (period high : Nat) : (s.completeReading period high).lamp = s.lamp :=
  State.completeReading_frame s period high .lamp (by decide)

@[simp] theorem State.completeReading_pending (s : State) (period high : Nat) : (s.completeReading period high).pending = s.pending :=
  State.completeReading_frame s period high .pending (by decide)

@[simp] theorem State.completeReading_params (s : State) (period high : Nat) : (s.completeReading period high).params = s.params :=
  State.params_congr (State.completeReading_table s period high)

@[simp] theorem State.completeReading_isEnd (s : State) (period high : Nat) : (s.completeReading period high).isEnd = s.isEnd :=
  State.isEnd_congr (State.completeReading_power s period high)

@[simp] theorem State.completeReading_released (s : State) (period high : Nat) : (s.completeReading period high).released = s.released :=
  State.released_congr (State.completeReading_power s period high)

theorem State.risingEdge_frame (s : State) (samples : Nat) : State.SameOutside [.joint] s (s.risingEdge samples) := by
  intro b hb
  unfold State.risingEdge
  cases b <;> simp only [State.sameBlock] <;> first | (simp at hb; done) | (repeat' split) <;> simp

@[simp] theorem State.risingEdge_power (s : State) (samples : Nat) : (s.risingEdge samples).power = s.power :=
  State.risingEdge_frame s samples .power (by decide)

@[simp] theorem State.risingEdge_line (s : State) (samples : Nat) : (s.risingEdge samples).line = s.line :=
  State.risingEdge_frame s samples .line (by decide)

@[simp] theorem State.risingEdge_slot (s : State) (samples : Nat) : (s.risingEdge samples).slot = s.slot :=
  State.risingEdge_frame s samples .slot (by decide)

@[simp] theorem State.risingEdge_ctrl (s : State) (samples : Nat) : (s.risingEdge samples).ctrl = s.ctrl :=
  State.risingEdge_frame s samples .ctrl (by decide)

@[simp] theorem State.risingEdge_demand (s : State) (samples : Nat) : (s.risingEdge samples).demand = s.demand :=
  State.risingEdge_frame s samples .demand (by decide)

@[simp] theorem State.risingEdge_wheel (s : State) (samples : Nat) : (s.risingEdge samples).wheel = s.wheel :=
  State.risingEdge_frame s samples .wheel (by decide)

@[simp] theorem State.risingEdge_drive (s : State) (samples : Nat) : (s.risingEdge samples).drive = s.drive :=
  State.risingEdge_frame s samples .drive (by decide)

@[simp] theorem State.risingEdge_table (s : State) (samples : Nat) : (s.risingEdge samples).table = s.table :=
  State.risingEdge_frame s samples .table (by decide)

@[simp] theorem State.risingEdge_events (s : State) (samples : Nat) : (s.risingEdge samples).events = s.events :=
  State.risingEdge_frame s samples .events (by decide)

@[simp] theorem State.risingEdge_inputs (s : State) (samples : Nat) : (s.risingEdge samples).inputs = s.inputs :=
  State.risingEdge_frame s samples .inputs (by decide)

@[simp] theorem State.risingEdge_lamp (s : State) (samples : Nat) : (s.risingEdge samples).lamp = s.lamp :=
  State.risingEdge_frame s samples .lamp (by decide)

@[simp] theorem State.risingEdge_pending (s : State) (samples : Nat) : (s.risingEdge samples).pending = s.pending :=
  State.risingEdge_frame s samples .pending (by decide)

@[simp] theorem State.risingEdge_params (s : State) (samples : Nat) : (s.risingEdge samples).params = s.params :=
  State.params_congr (State.risingEdge_table s samples)

@[simp] theorem State.risingEdge_isEnd (s : State) (samples : Nat) : (s.risingEdge samples).isEnd = s.isEnd :=
  State.isEnd_congr (State.risingEdge_power s samples)

@[simp] theorem State.risingEdge_released (s : State) (samples : Nat) : (s.risingEdge samples).released = s.released :=
  State.released_congr (State.risingEdge_power s samples)

theorem State.evaluateDrag_frame (s : State) : State.SameOutside [.wheel, .events] s (s.evaluateDrag) := by
  intro b hb
  unfold State.evaluateDrag
  cases b <;> simp only [State.sameBlock] <;> first | (simp at hb; done) | (repeat' split) <;> simp

@[simp] theorem State.evaluateDrag_power (s : State) : (s.evaluateDrag).power = s.power :=
  State.evaluateDrag_frame s .power (by decide)

@[simp] theorem State.evaluateDrag_line (s : State) : (s.evaluateDrag).line = s.line :=
  State.evaluateDrag_frame s .line (by decide)

@[simp] theorem State.evaluateDrag_slot (s : State) : (s.evaluateDrag).slot = s.slot :=
  State.evaluateDrag_frame s .slot (by decide)

@[simp] theorem State.evaluateDrag_ctrl (s : State) : (s.evaluateDrag).ctrl = s.ctrl :=
  State.evaluateDrag_frame s .ctrl (by decide)

@[simp] theorem State.evaluateDrag_demand (s : State) : (s.evaluateDrag).demand = s.demand :=
  State.evaluateDrag_frame s .demand (by decide)

@[simp] theorem State.evaluateDrag_joint (s : State) : (s.evaluateDrag).joint = s.joint :=
  State.evaluateDrag_frame s .joint (by decide)

@[simp] theorem State.evaluateDrag_drive (s : State) : (s.evaluateDrag).drive = s.drive :=
  State.evaluateDrag_frame s .drive (by decide)

@[simp] theorem State.evaluateDrag_table (s : State) : (s.evaluateDrag).table = s.table :=
  State.evaluateDrag_frame s .table (by decide)

@[simp] theorem State.evaluateDrag_inputs (s : State) : (s.evaluateDrag).inputs = s.inputs :=
  State.evaluateDrag_frame s .inputs (by decide)

@[simp] theorem State.evaluateDrag_lamp (s : State) : (s.evaluateDrag).lamp = s.lamp :=
  State.evaluateDrag_frame s .lamp (by decide)

@[simp] theorem State.evaluateDrag_pending (s : State) : (s.evaluateDrag).pending = s.pending :=
  State.evaluateDrag_frame s .pending (by decide)

@[simp] theorem State.evaluateDrag_params (s : State) : (s.evaluateDrag).params = s.params :=
  State.params_congr (State.evaluateDrag_table s)

@[simp] theorem State.evaluateDrag_isEnd (s : State) : (s.evaluateDrag).isEnd = s.isEnd :=
  State.isEnd_congr (State.evaluateDrag_power s)

@[simp] theorem State.evaluateDrag_released (s : State) : (s.evaluateDrag).released = s.released :=
  State.released_congr (State.evaluateDrag_power s)

theorem State.takeTooth_frame (s : State) : State.SameOutside [.wheel, .events] s (s.takeTooth) := by
  intro b hb
  unfold State.takeTooth
  cases b <;> simp only [State.sameBlock] <;> first | (simp at hb; done) | (repeat' split) <;> simp

@[simp] theorem State.takeTooth_power (s : State) : (s.takeTooth).power = s.power :=
  State.takeTooth_frame s .power (by decide)

@[simp] theorem State.takeTooth_line (s : State) : (s.takeTooth).line = s.line :=
  State.takeTooth_frame s .line (by decide)

@[simp] theorem State.takeTooth_slot (s : State) : (s.takeTooth).slot = s.slot :=
  State.takeTooth_frame s .slot (by decide)

@[simp] theorem State.takeTooth_ctrl (s : State) : (s.takeTooth).ctrl = s.ctrl :=
  State.takeTooth_frame s .ctrl (by decide)

@[simp] theorem State.takeTooth_demand (s : State) : (s.takeTooth).demand = s.demand :=
  State.takeTooth_frame s .demand (by decide)

@[simp] theorem State.takeTooth_joint (s : State) : (s.takeTooth).joint = s.joint :=
  State.takeTooth_frame s .joint (by decide)

@[simp] theorem State.takeTooth_drive (s : State) : (s.takeTooth).drive = s.drive :=
  State.takeTooth_frame s .drive (by decide)

@[simp] theorem State.takeTooth_table (s : State) : (s.takeTooth).table = s.table :=
  State.takeTooth_frame s .table (by decide)

@[simp] theorem State.takeTooth_inputs (s : State) : (s.takeTooth).inputs = s.inputs :=
  State.takeTooth_frame s .inputs (by decide)

@[simp] theorem State.takeTooth_lamp (s : State) : (s.takeTooth).lamp = s.lamp :=
  State.takeTooth_frame s .lamp (by decide)

@[simp] theorem State.takeTooth_pending (s : State) : (s.takeTooth).pending = s.pending :=
  State.takeTooth_frame s .pending (by decide)

@[simp] theorem State.takeTooth_params (s : State) : (s.takeTooth).params = s.params :=
  State.params_congr (State.takeTooth_table s)

@[simp] theorem State.takeTooth_isEnd (s : State) : (s.takeTooth).isEnd = s.isEnd :=
  State.isEnd_congr (State.takeTooth_power s)

@[simp] theorem State.takeTooth_released (s : State) : (s.takeTooth).released = s.released :=
  State.released_congr (State.takeTooth_power s)

theorem State.tickReference_frame (s : State) : State.SameOutside [.power, .line, .drive, .lamp] s (s.tickReference) := by
  intro b hb
  unfold State.tickReference
  cases b <;> simp only [State.sameBlock] <;> first | (simp at hb; done) | simp

@[simp] theorem State.tickReference_slot (s : State) : (s.tickReference).slot = s.slot :=
  State.tickReference_frame s .slot (by decide)

@[simp] theorem State.tickReference_ctrl (s : State) : (s.tickReference).ctrl = s.ctrl :=
  State.tickReference_frame s .ctrl (by decide)

@[simp] theorem State.tickReference_demand (s : State) : (s.tickReference).demand = s.demand :=
  State.tickReference_frame s .demand (by decide)

@[simp] theorem State.tickReference_joint (s : State) : (s.tickReference).joint = s.joint :=
  State.tickReference_frame s .joint (by decide)

@[simp] theorem State.tickReference_wheel (s : State) : (s.tickReference).wheel = s.wheel :=
  State.tickReference_frame s .wheel (by decide)

@[simp] theorem State.tickReference_table (s : State) : (s.tickReference).table = s.table :=
  State.tickReference_frame s .table (by decide)

@[simp] theorem State.tickReference_events (s : State) : (s.tickReference).events = s.events :=
  State.tickReference_frame s .events (by decide)

@[simp] theorem State.tickReference_inputs (s : State) : (s.tickReference).inputs = s.inputs :=
  State.tickReference_frame s .inputs (by decide)

@[simp] theorem State.tickReference_pending (s : State) : (s.tickReference).pending = s.pending :=
  State.tickReference_frame s .pending (by decide)

@[simp] theorem State.tickReference_params (s : State) : (s.tickReference).params = s.params :=
  State.params_congr (State.tickReference_table s)

theorem State.wheelTick_frame (s : State) (sample : Level) : State.SameOutside [.ctrl, .demand, .wheel, .drive, .events] s (s.wheelTick sample) := by
  intro b hb
  unfold State.wheelTick
  cases b <;> simp only [State.sameBlock] <;> first | (simp at hb; done) | (repeat' split) <;> simp

@[simp] theorem State.wheelTick_power (s : State) (sample : Level) : (s.wheelTick sample).power = s.power :=
  State.wheelTick_frame s sample .power (by decide)

@[simp] theorem State.wheelTick_line (s : State) (sample : Level) : (s.wheelTick sample).line = s.line :=
  State.wheelTick_frame s sample .line (by decide)

@[simp] theorem State.wheelTick_slot (s : State) (sample : Level) : (s.wheelTick sample).slot = s.slot :=
  State.wheelTick_frame s sample .slot (by decide)

@[simp] theorem State.wheelTick_joint (s : State) (sample : Level) : (s.wheelTick sample).joint = s.joint :=
  State.wheelTick_frame s sample .joint (by decide)

@[simp] theorem State.wheelTick_table (s : State) (sample : Level) : (s.wheelTick sample).table = s.table :=
  State.wheelTick_frame s sample .table (by decide)

@[simp] theorem State.wheelTick_inputs (s : State) (sample : Level) : (s.wheelTick sample).inputs = s.inputs :=
  State.wheelTick_frame s sample .inputs (by decide)

@[simp] theorem State.wheelTick_lamp (s : State) (sample : Level) : (s.wheelTick sample).lamp = s.lamp :=
  State.wheelTick_frame s sample .lamp (by decide)

@[simp] theorem State.wheelTick_pending (s : State) (sample : Level) : (s.wheelTick sample).pending = s.pending :=
  State.wheelTick_frame s sample .pending (by decide)

@[simp] theorem State.wheelTick_params (s : State) (sample : Level) : (s.wheelTick sample).params = s.params :=
  State.params_congr (State.wheelTick_table s sample)

@[simp] theorem State.wheelTick_isEnd (s : State) (sample : Level) : (s.wheelTick sample).isEnd = s.isEnd :=
  State.isEnd_congr (State.wheelTick_power s sample)

@[simp] theorem State.wheelTick_released (s : State) (sample : Level) : (s.wheelTick sample).released = s.released :=
  State.released_congr (State.wheelTick_power s sample)

theorem State.endRest_frame (s : State) : State.SameOutside [.demand, .drive, .events] s (s.endRest) := by
  intro b hb
  unfold State.endRest
  cases b <;> simp only [State.sameBlock] <;> first | (simp at hb; done) | simp

@[simp] theorem State.endRest_power (s : State) : (s.endRest).power = s.power :=
  State.endRest_frame s .power (by decide)

@[simp] theorem State.endRest_line (s : State) : (s.endRest).line = s.line :=
  State.endRest_frame s .line (by decide)

@[simp] theorem State.endRest_slot (s : State) : (s.endRest).slot = s.slot :=
  State.endRest_frame s .slot (by decide)

@[simp] theorem State.endRest_ctrl (s : State) : (s.endRest).ctrl = s.ctrl :=
  State.endRest_frame s .ctrl (by decide)

@[simp] theorem State.endRest_joint (s : State) : (s.endRest).joint = s.joint :=
  State.endRest_frame s .joint (by decide)

@[simp] theorem State.endRest_wheel (s : State) : (s.endRest).wheel = s.wheel :=
  State.endRest_frame s .wheel (by decide)

@[simp] theorem State.endRest_table (s : State) : (s.endRest).table = s.table :=
  State.endRest_frame s .table (by decide)

@[simp] theorem State.endRest_inputs (s : State) : (s.endRest).inputs = s.inputs :=
  State.endRest_frame s .inputs (by decide)

@[simp] theorem State.endRest_lamp (s : State) : (s.endRest).lamp = s.lamp :=
  State.endRest_frame s .lamp (by decide)

@[simp] theorem State.endRest_pending (s : State) : (s.endRest).pending = s.pending :=
  State.endRest_frame s .pending (by decide)

@[simp] theorem State.endRest_params (s : State) : (s.endRest).params = s.params :=
  State.params_congr (State.endRest_table s)

@[simp] theorem State.endRest_isEnd (s : State) : (s.endRest).isEnd = s.isEnd :=
  State.isEnd_congr (State.endRest_power s)

@[simp] theorem State.endRest_released (s : State) : (s.endRest).released = s.released :=
  State.released_congr (State.endRest_power s)

theorem State.expireStepTimer_frame (s : State) : State.SameOutside [.lamp] s (s.expireStepTimer) := by
  intro b hb
  unfold State.expireStepTimer
  cases b <;> simp only [State.sameBlock] <;> first | (simp at hb; done) | (repeat' split) <;> simp

@[simp] theorem State.expireStepTimer_power (s : State) : (s.expireStepTimer).power = s.power :=
  State.expireStepTimer_frame s .power (by decide)

@[simp] theorem State.expireStepTimer_line (s : State) : (s.expireStepTimer).line = s.line :=
  State.expireStepTimer_frame s .line (by decide)

@[simp] theorem State.expireStepTimer_slot (s : State) : (s.expireStepTimer).slot = s.slot :=
  State.expireStepTimer_frame s .slot (by decide)

@[simp] theorem State.expireStepTimer_ctrl (s : State) : (s.expireStepTimer).ctrl = s.ctrl :=
  State.expireStepTimer_frame s .ctrl (by decide)

@[simp] theorem State.expireStepTimer_demand (s : State) : (s.expireStepTimer).demand = s.demand :=
  State.expireStepTimer_frame s .demand (by decide)

@[simp] theorem State.expireStepTimer_joint (s : State) : (s.expireStepTimer).joint = s.joint :=
  State.expireStepTimer_frame s .joint (by decide)

@[simp] theorem State.expireStepTimer_wheel (s : State) : (s.expireStepTimer).wheel = s.wheel :=
  State.expireStepTimer_frame s .wheel (by decide)

@[simp] theorem State.expireStepTimer_drive (s : State) : (s.expireStepTimer).drive = s.drive :=
  State.expireStepTimer_frame s .drive (by decide)

@[simp] theorem State.expireStepTimer_table (s : State) : (s.expireStepTimer).table = s.table :=
  State.expireStepTimer_frame s .table (by decide)

@[simp] theorem State.expireStepTimer_events (s : State) : (s.expireStepTimer).events = s.events :=
  State.expireStepTimer_frame s .events (by decide)

@[simp] theorem State.expireStepTimer_inputs (s : State) : (s.expireStepTimer).inputs = s.inputs :=
  State.expireStepTimer_frame s .inputs (by decide)

@[simp] theorem State.expireStepTimer_pending (s : State) : (s.expireStepTimer).pending = s.pending :=
  State.expireStepTimer_frame s .pending (by decide)

@[simp] theorem State.expireStepTimer_params (s : State) : (s.expireStepTimer).params = s.params :=
  State.params_congr (State.expireStepTimer_table s)

@[simp] theorem State.expireStepTimer_isEnd (s : State) : (s.expireStepTimer).isEnd = s.isEnd :=
  State.isEnd_congr (State.expireStepTimer_power s)

@[simp] theorem State.expireStepTimer_released (s : State) : (s.expireStepTimer).released = s.released :=
  State.released_congr (State.expireStepTimer_power s)

end Sys2Proof.Machine
end

