-- ==== Sys2Proof/Laws/Ops.lean ====
section
/-! SUPPORT. What the shared operations do: events, the drive, node states, trips, evaluations, the hold-cause set, the
reset of all blocks. Cited by the claims about commands in place of unfolding the operations. -/

namespace Sys2Proof.Machine

/-! ## Events -/

/-- The one member of an event's own set. -/
theorem hasEvent_bit (e e' : Event) : hasEvent (Event.bit e) e' = decide (e = e') := by
  cases e <;> cases e' <;> rfl

/-- The flags after an event is raised (R181). -/
theorem State.hasEvent_raise (s : State) (e e' : Event) :
    hasEvent (s.raise e).events.flags e' = (hasEvent s.events.flags e' || decide (e = e')) := by
  rw [← hasEvent_bit]
  simp [State.raise, hasEvent]

@[simp] theorem State.raise_enable (s : State) (e : Event) : (s.raise e).events.enable = s.events.enable := rfl

@[simp] theorem State.raise_high (s : State) (e : Event) : (s.raise e).events.high = s.events.high := rfl

theorem State.OnlyRaises.refl (s : State) : State.OnlyRaises s s := ⟨rfl, rfl, fun _ h => h⟩

theorem State.OnlyRaises.trans {s t u : State} (h : State.OnlyRaises s t) (k : State.OnlyRaises t u) :
    State.OnlyRaises s u :=
  ⟨k.1.trans h.1, k.2.1.trans h.2.1, fun e he => k.2.2 e (h.2.2 e he)⟩

theorem State.OnlyRaises.of_events {s t : State} (h : t.events = s.events) : State.OnlyRaises s t :=
  ⟨by rw [h], by rw [h], fun e he => by rw [h]; exact he⟩

/-- What follows without touching the events raises no more. -/
theorem State.OnlyRaises.andThen {s t u : State} (h : State.OnlyRaises s t) (k : u.events = t.events) :
    State.OnlyRaises s u :=
  h.trans (.of_events k)

theorem State.raise_onlyRaises (s : State) (e : Event) : State.OnlyRaises s (s.raise e) :=
  ⟨rfl, rfl, fun e' h => by rw [State.hasEvent_raise, h]; rfl⟩

theorem State.raiseIf_onlyRaises (s : State) (b : Bool) (e : Event) : State.OnlyRaises s (s.raiseIf b e) := by
  unfold State.raiseIf
  split
  · exact s.raise_onlyRaises e
  · exact .refl s

theorem State.raiseCondition_onlyRaises (s : State) (x : Condition) : State.OnlyRaises s (s.raiseCondition x) :=
  State.OnlyRaises.trans (.of_events rfl) (State.raise_onlyRaises _ _)

theorem State.raiseConditionIf_onlyRaises (s : State) (b : Bool) (x : Condition) :
    State.OnlyRaises s (s.raiseConditionIf b x) := by
  unfold State.raiseConditionIf
  split
  · exact s.raiseCondition_onlyRaises x
  · exact .refl s

/-! ## The drive -/

@[simp] theorem State.enterRunning_st (s : State) : s.enterRunning.drive.st = .running := rfl

@[simp] theorem State.driveOff_drive (s : State) :
    s.driveOff.drive = { s.drive with
      st := .off, rateRef := 0, period := none, phase := none, dirChange := false, jog := false } := rfl

@[simp] theorem State.haltMotor_drive (s : State) :
    s.haltMotor.drive = { s.drive with
      st := .stopping, rateRef := 0, period := none, phase := some (Timer.tenths s.params.stopTime) } := rfl

@[simp] theorem State.beginStarting_drive (s : State) :
    s.beginStarting.drive = { s.drive with
      st := .starting, rateRef := 0, phase := some (Timer.tenths s.params.startTimeout) } := rfl

/-- All that DRDY does to a drive (R125): a STARTING drive with DRDY active enters RUNNING, and any other stays. -/
theorem State.takeReady_cases (s : State) :
    (s.drive.st = .starting ∧ s.drdyActive = true ∧ s.takeReady = s.enterRunning)
      ∨ ((s.drive.st ≠ .starting ∨ s.drdyActive = false) ∧ s.takeReady = s) := by
  by_cases h1 : s.drive.st = .starting
  · by_cases h2 : s.drdyActive = true
    · exact .inl ⟨h1, h2, by simp [State.takeReady, h1, h2]⟩
    · exact .inr ⟨.inr (by simpa using h2), by simp [State.takeReady, h2]⟩
  · exact .inr ⟨.inl h1, by simp [State.takeReady, h1]⟩

/-- A drive that is not STARTING stays (R125). -/
theorem State.takeReady_of_not_starting (s : State) (h : s.drive.st ≠ .starting) : s.takeReady = s := by
  simp [State.takeReady, h]

/-- No drive is left STARTING with DRDY active (R125). -/
theorem State.takeReady_waits (s : State) (h : s.takeReady.drive.st = .starting) : s.takeReady.drdyActive = false := by
  obtain ⟨_, _, e⟩ | ⟨h2, e⟩ := s.takeReady_cases
  · rw [e] at h
    simp at h
  · rw [e] at h ⊢
    exact h2.resolve_left (fun x => x h)

/-- A period begins only with events and condition SHORT beside the drive (R123, R124). -/
theorem State.startDutyPeriod_onlyRaises (s : State) : State.OnlyRaises s s.startDutyPeriod := by
  unfold State.startDutyPeriod
  simp only
  split
  · exact (s.raiseConditionIf_onlyRaises (onTimeShort (rawOnTime s.demand.d s.params.dutyPeriod) s.params.minOn)
      .short).andThen (by simp)
  · exact (s.raiseConditionIf_onlyRaises (onTimeShort (rawOnTime s.demand.d s.params.dutyPeriod) s.params.minOn)
      .short).andThen (by simp)

theorem State.startIfDue_onlyRaises (s : State) : State.OnlyRaises s s.startIfDue := by
  unfold State.startIfDue
  split
  · split
    · exact s.startDutyPeriod_onlyRaises
    · exact .of_events (by simp)
  · exact .refl s

/-- Nothing starts outside RUN or without a demand (R123, R128). -/
theorem State.startIfDue_of_not_due (s : State) (h : ¬(s.ctrl.node = .run ∧ 0 < s.demand.d)) : s.startIfDue = s := by
  unfold State.startIfDue
  rw [if_neg h]

/-- No jog begins outside LOCAL (R136). -/
theorem State.startJogIfDue_of_not_manual (s : State) (h : s.ctrl.node ≠ .manual) : s.startJogIfDue = s := by
  unfold State.startJogIfDue
  rw [if_neg fun x => h x.1]

/-- Outside RUN and LOCAL the arrival at OFF starts nothing (R133). -/
theorem State.arriveOff_of_resting_node (s : State) (h1 : s.ctrl.node ≠ .run) (h2 : s.ctrl.node ≠ .manual) :
    s.arriveOff = s.driveOff := by
  unfold State.arriveOff
  rw [State.startIfDue_of_not_due _ (by simp [h1]), State.takeReady_of_not_starting _ (by simp),
    State.startJogIfDue_of_not_manual _ (by simp [h2])]

theorem State.arriveOff_onlyRaises (s : State) : State.OnlyRaises s s.arriveOff := by
  have h : State.OnlyRaises s s.driveOff := .of_events (by simp)
  exact (h.trans s.driveOff.startIfDue_onlyRaises).andThen (by simp [State.arriveOff])

theorem State.enterStopping_onlyRaises (s : State) : State.OnlyRaises s s.enterStopping := by
  unfold State.enterStopping
  split
  · exact State.OnlyRaises.trans (.of_events (by simp)) (State.arriveOff_onlyRaises _)
  · exact .of_events (by simp)

theorem State.driveStop_onlyRaises (s : State) : State.OnlyRaises s s.driveStop := by
  unfold State.driveStop
  split
  · exact s.enterStopping_onlyRaises
  · exact s.enterStopping_onlyRaises
  · exact .of_events (by simp)
  · exact .refl s
  · exact .refl s
  · exact .refl s

/-- Outside RUN and LOCAL a stop leaves DRIVE_RUN de-energized (R132). -/
theorem State.driveStop_energizes (s : State) (h1 : s.ctrl.node ≠ .run) (h2 : s.ctrl.node ≠ .manual) :
    DriveState.energizes s.driveStop.drive.st = false := by
  have hs : DriveState.energizes s.enterStopping.drive.st = false := by
    unfold State.enterStopping
    split
    · rw [State.arriveOff_of_resting_node _ (by simpa using h1) (by simpa using h2)]
      rfl
    · rfl
  unfold State.driveStop
  split <;> first | exact hs | rfl | simp_all [DriveState.energizes]

/-- Outside RUN and LOCAL a stop changes the drive alone (R132). -/
theorem State.driveStop_demand_of_resting_node (s : State) (h1 : s.ctrl.node ≠ .run) (h2 : s.ctrl.node ≠ .manual) :
    s.driveStop.demand = s.demand := by
  have hs : s.enterStopping.demand = s.demand := by
    unfold State.enterStopping
    split
    · rw [State.arriveOff_of_resting_node _ (by simpa using h1) (by simpa using h2)]
      rfl
    · rfl
  unfold State.driveStop
  split <;> first | exact hs | rfl

/-- The demand d and the contribution c are no concern of the drive: starting and stopping change only condition sets. -/
theorem State.startDutyPeriod_d (s : State) : s.startDutyPeriod.demand.d = s.demand.d := by
  unfold State.startDutyPeriod
  simp only
  split <;> (simp; unfold State.raiseConditionIf; split <;> rfl)

theorem State.startDutyPeriod_c (s : State) : s.startDutyPeriod.demand.c = s.demand.c := by
  unfold State.startDutyPeriod
  simp only
  split <;> (simp; unfold State.raiseConditionIf; split <;> rfl)

@[simp] theorem State.startIfDue_d (s : State) : s.startIfDue.demand.d = s.demand.d := by
  unfold State.startIfDue
  split
  · split
    · exact s.startDutyPeriod_d
    · simp
  · rfl

@[simp] theorem State.startIfDue_c (s : State) : s.startIfDue.demand.c = s.demand.c := by
  unfold State.startIfDue
  split
  · split
    · exact s.startDutyPeriod_c
    · simp
  · rfl

@[simp] theorem State.arriveOff_d (s : State) : s.arriveOff.demand.d = s.demand.d := by
  simp [State.arriveOff]

@[simp] theorem State.arriveOff_c (s : State) : s.arriveOff.demand.c = s.demand.c := by
  simp [State.arriveOff]

@[simp] theorem State.enterStopping_d (s : State) : s.enterStopping.demand.d = s.demand.d := by
  unfold State.enterStopping
  split <;> simp

@[simp] theorem State.enterStopping_c (s : State) : s.enterStopping.demand.c = s.demand.c := by
  unfold State.enterStopping
  split <;> simp

@[simp] theorem State.driveStop_d (s : State) : s.driveStop.demand.d = s.demand.d := by
  unfold State.driveStop
  split <;> simp

@[simp] theorem State.driveStop_c (s : State) : s.driveStop.demand.c = s.demand.c := by
  unfold State.driveStop
  split <;> simp

/-! ## Node states -/

/-- Moving changes the node state and nothing else of the State Controller. -/
@[simp] theorem State.moveTo_ctrl (s : State) (n : NodeState) : (s.moveTo n).ctrl = { s.ctrl with node := n } := by
  unfold State.moveTo
  split
  · next h => rw [h]
  · (repeat' split) <;> simp [State.withNode]

theorem State.moveTo_self (s : State) : s.moveTo s.ctrl.node = s := by
  simp [State.moveTo]

theorem State.noteLocalEntry_onlyRaises (s : State) : State.OnlyRaises s s.noteLocalEntry :=
  (s.raise_onlyRaises .handEntry).andThen rfl

theorem State.moveTo_onlyRaises (s : State) (n : NodeState) : State.OnlyRaises s (s.moveTo n) := by
  have leave (a : State) : State.OnlyRaises a (if s.ctrl.node = .run then a.dropDemand else a) := by
    split
    · exact .of_events (by simp)
    · exact .refl a
  have enter (a : State) : State.OnlyRaises a (if n = .manual then a.noteLocalEntry else a) := by
    split
    · exact a.noteLocalEntry_onlyRaises
    · exact .refl a
  have stop (a : State) : State.OnlyRaises a
      (if s.ctrl.node = .run ∨ s.ctrl.node = .manual ∨ n = .tripped then a.driveStop else a) := by
    split
    · exact a.driveStop_onlyRaises
    · exact .refl a
  have jog (a : State) : State.OnlyRaises a (if n = .manual then a.startJogIfDue else a) := by
    split
    · exact .of_events (by simp)
    · exact .refl a
  have first : State.OnlyRaises s (s.withNode n) := .of_events (by simp)
  unfold State.moveTo
  split
  · exact .refl s
  · exact (((first.trans (leave _)).trans (enter _)).trans (stop _)).trans (jog _)

/-- d and c after a move: 0 on leaving RUN, else kept (R48, R78). -/
theorem State.moveTo_d (s : State) (n : NodeState) :
    (s.moveTo n).demand.d = if s.ctrl.node = .run ∧ n ≠ .run then 0 else s.demand.d := by
  by_cases hn : n = s.ctrl.node
  · rw [if_neg fun x => x.2 (hn.trans x.1)]
    simp only [State.moveTo, if_pos hn]
  · by_cases hr : s.ctrl.node = .run
    · rw [if_pos ⟨hr, fun x => hn (by rw [x, hr])⟩]
      simp only [State.moveTo, if_neg hn, if_pos hr]
      (repeat' split) <;> simp [State.noteLocalEntry, State.dropDemand]
    · rw [if_neg fun x => hr x.1]
      simp only [State.moveTo, if_neg hn, if_neg hr]
      (repeat' split) <;> simp [State.noteLocalEntry]

theorem State.moveTo_c (s : State) (n : NodeState) :
    (s.moveTo n).demand.c = if s.ctrl.node = .run ∧ n ≠ .run then 0 else s.demand.c := by
  by_cases hn : n = s.ctrl.node
  · rw [if_neg fun x => x.2 (hn.trans x.1)]
    simp only [State.moveTo, if_pos hn]
  · by_cases hr : s.ctrl.node = .run
    · rw [if_pos ⟨hr, fun x => hn (by rw [x, hr])⟩]
      simp only [State.moveTo, if_neg hn, if_pos hr]
      (repeat' split) <;> simp [State.noteLocalEntry, State.dropDemand]
    · rw [if_neg fun x => hr x.1]
      simp only [State.moveTo, if_neg hn, if_neg hr]
      (repeat' split) <;> simp [State.noteLocalEntry]

/-! ## Evaluations, trips, hold causes -/

/-- A trip request keeps the hold-cause set, the drive-reset result and the machine mode record. -/
theorem State.tripRequest_ctrl (s : State) (cause : TripCause) :
    (s.tripRequest cause).ctrl.holds = s.ctrl.holds ∧ (s.tripRequest cause).ctrl.driveResult = s.ctrl.driveResult
      ∧ (s.tripRequest cause).ctrl.machineRun = s.ctrl.machineRun := by
  unfold State.tripRequest
  (repeat' split) <;> simp [State.withTrip]

theorem State.tripRequest_onlyRaises (s : State) (cause : TripCause) : State.OnlyRaises s (s.tripRequest cause) := by
  have serving : State.OnlyRaises s
      (((s.withTrip (some (s.newTrip cause))).moveTo .tripped).moveTo
        ((s.withTrip (some (s.newTrip cause))).moveTo .tripped).evaluated) :=
    State.OnlyRaises.trans (State.OnlyRaises.trans (.of_events (by simp)) (State.moveTo_onlyRaises _ _))
      (State.moveTo_onlyRaises _ _)
  unfold State.tripRequest
  split
  · exact .refl s
  · exact serving
  · exact serving
  · exact serving
  · exact .of_events (by simp)
  · (repeat' split) <;> exact .of_events (by simp)

theorem State.safeRequest_onlyRaises (s : State) : State.OnlyRaises s s.safeRequest :=
  State.OnlyRaises.trans (State.raise_onlyRaises _ _) (State.tripRequest_onlyRaises _ _)

/-- An evaluation keeps the hold-cause set, the drive-reset result and the machine mode record. -/
theorem State.evaluate_ctrl (s : State) :
    s.evaluate.ctrl.holds = s.ctrl.holds ∧ s.evaluate.ctrl.driveResult = s.ctrl.driveResult
      ∧ s.evaluate.ctrl.machineRun = s.ctrl.machineRun := by
  unfold State.evaluate
  simp only
  split
  · have h := State.tripRequest_ctrl ((s.moveTo s.evaluated).raise .safety) .safe
    simpa [State.safeRequest] using h
  · simp

theorem State.evaluate_onlyRaises (s : State) : State.OnlyRaises s s.evaluate := by
  unfold State.evaluate
  simp only
  split
  · exact State.OnlyRaises.trans (State.moveTo_onlyRaises _ _) (State.safeRequest_onlyRaises _)
  · exact State.moveTo_onlyRaises _ _

/-- An evaluation that leaves the node where it is changes nothing, when it is not into a serving state. -/
theorem State.evaluate_of_standby (s : State) (f : Bool) (h : s.ctrl.node = .standby f) : s.evaluate = s := by
  have he : s.evaluated = .standby f := by unfold State.evaluated; rw [h]
  unfold State.evaluate
  simp only [he]
  rw [if_neg (by simp [NodeState.serving]), ← h, State.moveTo_self]

@[simp] theorem State.setHolds_holds (s : State) (h : HoldCauses) : (s.setHolds h).ctrl.holds = h := by
  unfold State.setHolds
  split
  · next e => exact e.symm
  · simpa using (State.evaluate_ctrl (s.withCtrl { s.ctrl with holds := h })).1

theorem State.setHolds_onlyRaises (s : State) (h : HoldCauses) : State.OnlyRaises s (s.setHolds h) := by
  unfold State.setHolds
  split
  · exact .refl s
  · exact State.OnlyRaises.trans (.of_events (by simp)) (State.evaluate_onlyRaises _)

/-- After CHAIN is seen OPEN it stands in the hold-cause set, and the other causes are as before (R38). -/
theorem State.enterChain_holds (s : State) (opener : Bool) :
    (s.enterChain opener).ctrl.holds = { s.ctrl.holds with chain := true } := by
  unfold State.enterChain
  split
  · next h =>
    have : s.ctrl.holds = { s.ctrl.holds with chain := s.ctrl.holds.chain } := rfl
    rw [h] at this
    exact this
  · rw [State.setHolds_holds]

theorem State.releaseChain_holds (s : State) : s.releaseChain.ctrl.holds = { s.ctrl.holds with chain := false } :=
  State.setHolds_holds _ _

/-! ## Resets -/

@[simp] theorem State.resetBlocks_power (s : State) (keep : Bool) : (s.resetBlocks keep).power = s.power := rfl

@[simp] theorem State.resetBlocks_pending (s : State) (keep : Bool) : (s.resetBlocks keep).pending = s.pending := rfl

/-- A line reset finds the line quiet exactly when no frame stands in either transmit buffer (R22). -/
theorem State.lineQuiet_iff (s : State) :
    s.lineQuiet = true ↔ s.line.txInner = .empty ∧ s.line.txOuter = .empty := by
  simp [State.lineQuiet]

/-- The index the straps form (R190), as a number. -/
theorem IndexStraps.number_toNat (x : IndexStraps) :
    (IndexStraps.number x).toNat = 16 * Level.bit (StrapPin.reads x.idx4) + 8 * Level.bit (StrapPin.reads x.idx3)
      + 4 * Level.bit (StrapPin.reads x.idx2) + 2 * Level.bit (StrapPin.reads x.idx1)
      + Level.bit (StrapPin.reads x.idx0) := by
  have h (l : Level) : Level.bit l ≤ 1 := by cases l <;> decide
  have h4 := h (StrapPin.reads x.idx4)
  have h3 := h (StrapPin.reads x.idx3)
  have h2 := h (StrapPin.reads x.idx2)
  have h1 := h (StrapPin.reads x.idx1)
  have h0 := h (StrapPin.reads x.idx0)
  rw [IndexStraps.number, BitVec.toNat_ofNat]
  omega

/-! ## Timers and sample clocks -/

/-- A timer has run out exactly when it runs and has no time left (log 3). -/
theorem timerRunOut_iff (x : Option Timer) : timerRunOut x = true ↔ ∃ t, x = some t ∧ t.left = 0 := by
  cases x <;> simp [timerRunOut]

/-- The sample clock of an input stands when its sample is due and, for a SLOW input, at the twentieth tick (R175). -/
theorem State.sampleClock_iff (s : State) (i : InputName) :
    s.sampleClock i = true ↔ PerInput.get s.power.sampleDue i = true
      ∧ (PerInput.get s.params.inputFilter i = .slow → s.power.refTick = 0) := by
  unfold State.sampleClock FilterKind.samplesAt
  cases PerInput.get s.params.inputFilter i <;> simp

/-! ## Service records -/

/-- A service operation changes the Crossing Table, the pending commit indication, the waiting line reset and the event
sets and flags, and nothing else. -/
theorem State.operate_frame (s : State) (op : Byte) (item : Word16) (p : Payload) :
    State.SameOutside [.line, .slot, .table, .events] s (s.operate op item p).state := by
  intro b hb
  unfold State.operate State.opReadParam State.opWriteParam State.opReadEntry State.opWriteEntry State.opTrimEntries
    State.opStageFromActive State.opCommit State.opSetEvents State.opReadLive State.opLineReset
  cases b <;> simp only [State.sameBlock] <;> first | (simp at hb; done) |
    ((repeat' split) <;> simp [refuse, State.withStaging])

/-- Handling a record changes no more than its operation does. -/
theorem State.serve_frame (s : State) (r : ServiceRecord) :
    State.SameOutside [.line, .slot, .table, .events] s (s.serve r).1 := by
  unfold State.serve
  split
  · exact State.operate_frame _ _ _ _
  · split
    · exact State.operate_frame _ _ _ _
    · exact .refl _ s

/-- Of a record a node changes the result and the payload at most (R8, R161). -/
theorem State.serve_record (s : State) (r : ServiceRecord) :
    (s.serve r).2.target = r.target ∧ (s.serve r).2.op = r.op ∧ (s.serve r).2.tag = r.tag
      ∧ (s.serve r).2.item = r.item := by
  unfold State.serve
  split
  · exact ⟨rfl, rfl, rfl, rfl⟩
  · split <;> exact ⟨rfl, rfl, rfl, rfl⟩

/-- A record that does not address the node by its index goes on as it came (R8, R161). -/
theorem State.serve_record_of_not_addressed (s : State) (r : ServiceRecord) (h : s.addressed r.target = false) :
    (s.serve r).2 = r := by
  unfold State.serve
  rw [if_neg (by rw [h]; exact Bool.false_ne_true)]
  split <;> rfl

/-! ## Steps -/

theorem step_cons (s : State) (c : Instr) (rest : List Instr) (h : s.pending = c :: rest) :
    step s = exec c (s.withPending rest) := by
  unfold step
  rw [h]

/-! ## The inputs at a swap (R178, R53) -/

/-- All that the Input Conditioner does at a swap: its six turns, and then one count of a SAFE request that waits and finds
the node TRIPPED. -/
theorem State.inputsAtSwap_cases (s : State) (old : Params) :
    s.inputsAtSwap old = s.inputTurns old
      ∨ (s.safeWaits old = true ∧ (s.inputTurns old).ctrl.node = .tripped
          ∧ s.inputsAtSwap old
            = (s.inputTurns old).withTrip ((s.inputTurns old).ctrl.trip.map TripRecord.count)) := by
  by_cases hw : s.safeWaits old = true
  · by_cases hn : (s.inputTurns old).ctrl.node = .tripped
    · exact .inr ⟨hw, hn, by simp [State.inputsAtSwap, State.tripRequestIf, State.tripRequest, hw, hn]⟩
    · exact .inl (by simp [State.inputsAtSwap, State.tripRequestIf, hn])
  · exact .inl (by simp [State.inputsAtSwap, State.tripRequestIf, hw])

end Sys2Proof.Machine
end

