-- ==== Sys2Proof/Tests/Slice0.lean ====
section
/-! SUPPORT. The model's own tests: ill-formed commands refused, the figures of the spec's worked cases (each test names
its source), single steps on small states, and for each obligation with hypotheses a state and operands that meet them. -/

namespace Sys2Proof.Tests

open Sys2Proof.Machine

/-! ## Helpers -/

/-- What a command leaves; every command answers a next state. -/
def after (c : Instr) (s : State) : State :=
  match exec c s with
  | .next t => t
  | .fault _ => s
  | .refused _ => s

/-- Tower 8 of "The Motion Computation": RADIUS 4000, VMAX 2800, RESERVE 150, GAIN 400, DEADBAND 25. -/
def towerEight : Params := { Params.default with radius := 4000, vmax := 2800, gain := 400, deadband := 25 }

/-- towerEight in RATE mode. -/
def towerRate : Params := { towerEight with driveMode := .rate }

/-- No hold cause. -/
def noHolds : HoldCauses := { linkLost := false, returnLost := false, chain := false, noSlot := false }

/-- A released tower with index 1: the profile of tower 8, SAFE active, RUN permitted, latched ceiling 1000, chain CLOSED. -/
def tower (role : Role) (n : NodeState) : State :=
  { State.reset with
    power := { PowerBlock.unpowered with supplyOk := true, index := 1, role := role }
    slot := { SlotBlock.reset with ceiling := 1000, chainOpen := false, outChain := .closed, runPermit := true }
    ctrl := { CtrlBlock.reset 1 with node := n, holds := noHolds, machineRun := true }
    table := { TableBlock.reset with bankA := { params := towerEight, entries := [] } }
    inputs := { resetInputs with safe := { pin := some .high, samples := none } } }

/-- That tower with other parameters. -/
def towerWith (p : Params) (role : Role) (n : NodeState) : State :=
  { tower role n with table := { TableBlock.reset with bankA := { params := p, entries := [] } } }

/-- That tower with this reading of its joint standing valid. -/
def withReading (s : State) (period high duty : Nat) : State :=
  s.withJoint { s.joint with
    reading := some { period := period, high := high, duty := duty }, fresh := true, valid := true }

/-- That tower with this drive state. -/
def driving (s : State) (st : DriveState) : State := s.withDrive { s.drive with st := st }

/-- That tower with this trip standing. -/
def tripped (s : State) (cause : TripCause) (extra : Nat) : State :=
  s.withTrip (some { cause := cause, seq := 7, extra := extra })

/-- That tower with this input at this pin level. -/
def withPin (s : State) (i : InputName) (level : Level) : State :=
  s.withInput i { pin := some level, samples := some { level := level, count := 3 } }

/-- One slot: command flags and clear set, the status as the centre controller sends it. -/
def slotWith (flags : Byte) (clear : Word16) : List Byte := flags :: wordBytes clear ++ List.replicate 17 0#8

/-- A frame by R5 and R6, its check by R9: control byte, sequence, pivot angle, rate, ceiling, slots, record. -/
def frameOf (control : Byte) (seq pivot rate ceiling : Nat) (slots : List (List Byte)) (record : List Byte) : Frame :=
  sealFrame ([0x3A#8, control] ++ natBytes seq ++ natBytes pivot ++ natBytes rate ++ natBytes ceiling
    ++ [0#8, BitVec.ofNat 8 slots.length] ++ slots.flatten ++ record ++ [0#8, 0#8])

/-- Frame 300 of "The Motion Computation", cut to one slot with RUN_PERMIT: OUTBOUND, FORWARD, RUN, chain CLOSED. -/
def frame300 : Frame := frameOf 0x04#8 300 0 2000 1000 [slotWith 0x01#8 0] []

/-- frame300 with a record: WRITE_PARAM 1 with 2400 for tower 1. -/
def serviceFrame : Frame :=
  frameOf 0x14#8 300 0 2000 1000 [slotWith 0x01#8 0] [1, 2, 61, 0, 0, 1, 0, 0, 0x09, 0x60, 0, 0, 0, 0]

/-- frame300 with a record of the unknown operation 0Bh. -/
def unknownFrame : Frame :=
  frameOf 0x14#8 300 0 2000 1000 [slotWith 0x01#8 0] [1, 0x0B, 61, 0, 0, 1, 0, 0, 0, 0, 0, 0, 0, 0]

/-- The same frame coming back: INBOUND, ceiling 670. -/
def inbound300 : Frame := frameOf 0x05#8 300 0 2000 670 [slotWith 0x01#8 0] []

/-- A burst of these bytes, every stop bit good. -/
def burstOf (f : Frame) : List RxByte := f.map fun b => { data := b, stopOk := true }

/-- A payload of zeros. -/
def zeros : Payload := { b0 := 0, b1 := 0, b2 := 0, b3 := 0, b4 := 0, b5 := 0, b6 := 0, b7 := 0 }

/-- A request to tower 1 with tag 61. -/
def ask (item : Word16) (p : Payload) : Request := { target := 1, tag := 61, item := item, payload := p }

/-- Index straps that form 31: all tied high. -/
def allHigh : IndexStraps :=
  { idx4 := .tied .high, idx3 := .tied .high, idx2 := .tied .high, idx1 := .tied .high, idx0 := .tied .high }

/-- Index straps that form 4: IDX2 tied high, IDX3 tied low, the others unconnected. -/
def strapFour : IndexStraps :=
  { idx4 := .unconnected, idx3 := .tied .low, idx2 := .tied .high, idx1 := .unconnected, idx0 := .unconnected }

/-- A 1 ms tick with the WHEEL pin low, then one sample of an input. -/
def ticked (i : InputName) (level : Level) (s : State) : State := after (.inputSample i level) (after (.wheelTick .low) s)

/-- The result byte of the record as handled. -/
def resultOf (s : State) : Option Byte := s.slot.record.map ServiceRecord.result

/-! ## Ill-formed commands -/

theorem test_wf_empty_burst : (Instr.frameArrival .inner []).wf = false := by decide
theorem test_wf_reading_of_no_samples : (Instr.jointReadingComplete 0).wf = false := by decide
theorem test_wf_falling_edge_of_no_samples : (Instr.jointFallingEdge 0).wf = false := by decide
theorem test_wf_unknown_op_is_known : (Instr.unknownOp 0x0A#8 (ask 0 zeros)).wf = false := by decide
theorem test_wf_unknown_op : (Instr.unknownOp 0x0B#8 (ask 0 zeros)).wf = true := by decide

/-! ## The frame -/

/-- R5: a frame with one slot and no record has 34 bytes. -/
theorem test_frame_length : frame300.length = 34 := by decide

/-- R10: it passes on the inner link and, being OUTBOUND, fails on the outer. -/
theorem test_frame_acceptance :
    acceptable .inner (burstOf frame300) = true ∧ acceptable .outer (burstOf frame300) = false := by
  decide +kernel

/-- R4: a byte on the wire, 41h: start bit, least significant bit first, stop bit. -/
theorem test_byte_bits :
    byteBits 0x41#8 = [false, true, false, false, false, false, false, true, false, true] := by decide

/-! ## The motion computation (04, "A Mid Tower and the End Tower When the Rate Rises", "Arithmetic at the Limits") -/

/-- What steps 1 to 6 give: candidate, contribution, OVER, UNDER, NOCAP. -/
def figures (m : MotionResult) : Nat × Nat × Bool × Bool × Bool :=
  (m.candidate, m.contribution, m.overSpeed, m.underSpeed, m.nocap)

theorem test_motion_frame_300_mid :
    figures (motionSteps towerEight .mid 2000 1000 1000 false 1 85) = (917, 1000, false, false, false) := by decide
theorem test_motion_frame_300_end :
    figures (motionSteps { towerEight with radius := 6100 } .endNode 2000 1000 1000 false 1 0)
      = (1000, 670, true, false, false) := by decide
theorem test_motion_frame_301 :
    figures (motionSteps towerEight .mid 2000 670 1000 false 1 85) = (643, 1000, false, false, false) := by decide
theorem test_motion_drag_520 :
    figures (motionSteps towerEight .mid 2000 670 602 false 1 40) = (522, 602, false, false, false) := by decide
theorem test_motion_rate_zero :
    figures (motionSteps towerEight .mid 0 1000 1000 false 1 85) = (0, 1000, false, false, true) := by decide
theorem test_motion_reverse :
    figures (motionSteps towerEight .mid 2000 1000 1000 false (-1) 85) = (745, 1000, false, false, false) := by decide
theorem test_motion_under :
    figures (motionSteps towerEight .mid 200 1000 1000 false 1 (-150)) = (0, 1000, false, true, false) := by decide
theorem test_motion_over :
    figures (motionSteps towerEight .mid 6000 1000 1000 false 1 85) = (1000, 340, true, false, false) := by decide
theorem test_motion_halt_passed :
    figures (motionSteps towerEight .mid 2000 1000 300 false 1 85) = (335, 300, false, false, false) := by decide

/-- The whole processing of frame 300 at tower 8, its joint at +85. -/
theorem test_processing_frame_300 :
    let s := withReading { tower .mid .run with line := { LineBlock.reset with txOuter := .taken frame300 } } 1176 618 5255
    let t := after .outboundProcessing s
    t.demand.d = 917 ∧ t.demand.c = 1000 ∧ t.demand.theta = 85 ∧ t.ctrl.node = .run ∧ t.drive.st = .starting := by decide

/-- frame300 with a record: READ_LIVE 9, the remaining time of the drive phase, for tower 1. -/
def liveFrame : Frame :=
  frameOf 0x14#8 300 0 2000 1000 [slotWith 0x01#8 0] [1, 9, 61, 0, 0, 9, 0, 0, 0, 0, 0, 0, 0, 0]

/-- R122, R138, R125: the frame that starts a drive whose DRDY is active shows STARTING and answers START_TIMEOUT, and the
drive is RUNNING afterwards. -/
theorem test_frame_that_starts_drive_shows_starting :
    let s := withPin (withReading (tower .mid .run) 1176 618 5255) .drdy .high
    let x := s.processFrame liveFrame
    byteAt x.2 16 = 0x01#8 ∧ x.1.slot.record.map (fun r => (r.payload.b2, r.payload.b3)) = some (0, 10)
      ∧ x.1.drive.st = .running := by decide +kernel

/-! ## The joint (05, "Worked Conversions") -/

theorem test_duty_of_618_in_1176 : dutyOf 618 1176 = 5255 := by decide
theorem test_angle_of_5255 :
    jointAngle Params.default { period := 1176, high := 618, duty := 5255 } = 85 := by decide
theorem test_angle_truncates_toward_zero :
    jointAngle { Params.default with jointOffset := -12 } { period := 1000, high := 499, duty := 4990 } = -15 := by decide
theorem test_angle_of_2021 :
    jointAngle Params.default { period := 950, high := 192, duty := 2021 } = -993 := by decide
theorem test_reading_past_1200_is_invalid :
    readingValid Params.default { period := 1300, high := 650, duty := 5000 } = false := by decide

/-- R90, R91: an edge 558 samples after a high time of 618 completes the reading of the first row. -/
theorem test_reading_completes :
    let t := after (.jointReadingComplete 558)
      (after (.jointFallingEdge 618) (after .jointMeasurementStart (tower .mid .run)))
    t.joint.reading = some { period := 1176, high := 618, duty := 5255 } ∧ t.joint.valid = true := by decide

/-! ## The wheel (06, "Worked Figures", "Counting Across a Duty Period") -/

theorem test_speed_of_4821 : measuredSpeed towerEight 4821 false = 2800 := by decide
theorem test_drag_of_8000 : dragRatio (measuredSpeed towerEight 8000 false) 2800 = 602 := by decide
theorem test_drag_of_4500_is_capped : dragRatio (measuredSpeed towerEight 4500 false) 2800 = 1000 := by decide
theorem test_drag_in_rate_mode : dragRatio (measuredSpeed towerEight 9000 false) 1680 = 892 := by decide

/-- The tooth 5800 energized ms after the last: DRAG, factor 831. -/
theorem test_tooth_raises_drag :
    let s := driving (tower .mid .run) .running
    let t := after .wheelTooth (s.withWheel { s.wheel with armed := true, counter := 5800 })
    t.wheel.period = 5800 ∧ t.wheel.drag = 831 ∧ hasEvent t.events.flags .drag = true := by decide

/-- The tick that takes the counter to STALL_TICKS trips the node (R109, R110). -/
theorem test_tick_stalls :
    let s := driving (tower .mid .run) .running
    let t := after (.wheelTick .low) (s.withWheel { s.wheel with counter := 19999 })
    t.wheel.frozen = true ∧ t.ctrl.node = .tripped ∧ t.drive.st = .stopping := by decide

/-! ## The drive (04, "A Short Duty Demand"; 07, "Three Duty Periods and a Reversal") -/

theorem test_on_time_nearer_to_min_on : dutyOnTime (rawOnTime 19 600) 20 = 20 := by decide
theorem test_on_time_nearer_to_zero : dutyOnTime (rawOnTime 15 600) 20 = 0 := by decide
theorem test_on_time_tie : dutyOnTime 10 20 = 20 := by decide
theorem test_on_time_of_350 : dutyOnTime (rawOnTime 350 475) 20 = 166 := by decide

/-- R130: DRDY lost in RUNNING: FAULTED, the node TRIPPED with first cause DRIVE_FAULT. -/
theorem test_drive_fault :
    let t := after (.inputChange .drdy .low) (withPin (driving (tower .mid .run) .running) .drdy .high)
    t.drive.st = .faulted ∧ t.ctrl.node = .tripped ∧ t.ctrl.trip.map TripRecord.cause = some .driveFault := by decide

/-! ## Sectors (08, the table under R145) -/

/-- A LIMIT entry of factor 600. -/
def sector (start stop : Nat) : Sector := { start := start, stop := stop, factor := 600, action := .limit }

theorem test_lookup_at_boundary :
    (lookupIn [sector 4210 4260, sector 4260 4330, sector 4330 4380] 4260).map LookupHit.index = some 1 := by decide
theorem test_lookup_end_excluded :
    lookupIn [sector 4210 4260, sector 4260 4330, sector 4330 4380] 4380 = none := by decide
theorem test_lookup_wraps :
    (lookupIn [sector 120 300, sector 35800 100] 40).map LookupHit.index = some 1
      ∧ lookupIn [sector 120 300, sector 35800 100] 100 = none := by decide

/-- The tower with a WATCH entry at pivot angle 0 and its tick counter here. -/
def watching (counter : Nat) : State :=
  let s := (tower .mid .run).withTable { (tower .mid .run).table with
    bankA := { params := towerEight, entries := [{ sector 0 100 with action := .watch }] } }
  s.withWheel { s.wheel with counter := counter }

/-! ## Service records (09, "Loading a Newly Powered Tower") -/

/-- Frame 100: WRITE_PARAM 1 with 2400 is DONE and stands in the staging bank. -/
theorem test_write_radius :
    let t := after (.writeParam (ask 1 { zeros with b2 := 0x09, b3 := 0x60 })) (tower .mid .idle)
    resultOf t = some 0x01#8 ∧ t.stagingBank.params.radius = 2400 ∧ t.params.radius = 4000 := by decide

/-- Frame 101: WRITE_PARAM 2 with 0 is REFUSED_RANGE. -/
theorem test_write_vmax_zero :
    let t := after (.writeParam (ask 2 zeros)) (tower .mid .idle)
    resultOf t = some 0x02#8 ∧ t.stagingBank.params.vmax = 0 := by decide

/-- Frame 105: COMMIT of a staging bank that fails is REFUSED_STATE with PROFILE raised. -/
theorem test_commit_refused :
    let t := after (.commit (ask 0 zeros)) (tower .mid .idle)
    resultOf t = some 0x04#8 ∧ t.table.lastCommit = .refused ∧ hasEvent t.events.flags .profile = true := by decide

/-- R163: operation 0Bh is UNKNOWN_OP. -/
theorem test_unknown_op : resultOf (after (.unknownOp 0x0B#8 (ask 0 zeros)) (tower .mid .idle)) = some 0x05#8 := by
  decide

/-! ## Events (R183, R184) -/

/-- DRAG (rank 11) made high-priority comes before CHAIN_STOP (rank 8) that is not. -/
theorem test_top_event_prefers_high : topEvent { flags := 0x0480#16, enable := 0xFFFF#16, high := 0x0400#16 } = 11 := by
  decide

theorem test_clear_set_clears :
    (after (.clearSet 0x0480#16)
      ((tower .mid .run).withEvents { EventBlock.reset with flags := 0x0482#16 })).events.flags = 0x0002#16 := by decide

/-! ## The span line, the straps -/

/-- R12: the arriving frame is taken for the outer pair. -/
theorem test_arrival_takes :
    (after (.frameArrival .inner (burstOf frame300)) (tower .mid .run)).line.txOuter = .taken frame300 := by
  decide +kernel

/-- R20, R36: the matching return latches the ceiling 670. -/
theorem test_return_latches :
    let s := tower .mid .run
    let t := after .inboundTake (s.withLine { s.line with
      txInner := .taken inbound300, returnRec := some { seq := 300, returned := false }, missCount := 1 })
    t.slot.ceiling = 670 ∧ t.line.missCount = 0 ∧ t.line.txInner = .sending inbound300 := by
  decide +kernel

/-- R190: index 31 is a strap fault. -/
theorem test_index_31_is_strap_fault :
    let t := after (.initialisationEnd allHigh .unconnected) (after .powerOnReset State.reset)
    t.ctrl.node = .standby true ∧ t.power.role = .mid := by decide

/-- R189, R190: IDX2 high and the rest low or unconnected is index 4, ROLE high is END; the node then stands in plain STANDBY
with CHAIN held. -/
theorem test_power_up :
    let t := after (.initialisationEnd strapFour (.tied .high)) (after .powerOnReset State.reset)
    t.released = true ∧ t.power.index = 4 ∧ t.power.role = .endNode ∧ t.ctrl.node = .standby false
      ∧ t.ctrl.holds = HoldCauses.reset := by decide

/-! ## Further single steps -/

/-- R175, R176: samples at three ticks take the level, and SAFE opening trips the node (R55); more samples at one tick are
none. -/
theorem test_three_samples_trip :
    let s := ticked .safe .low (ticked .safe .low (tower .mid .run))
    let t := ticked .safe .low s
    (after (.inputSample .safe .low) s).safeActive = true ∧ t.safeActive = false ∧ t.ctrl.node = .tripped
      ∧ hasEvent t.events.flags .safety = true := by decide

/-- R175, R192: HAND's filter is SLOW: sampled at the twentieth tick since the release and not at the first. -/
theorem test_slow_sample_at_twentieth_tick :
    let s := tower .mid .run
    (ticked .hand .high s).inputs.hand.samples = none
      ∧ (ticked .hand .high (s.withPower { s.power with refTick := 19 })).inputs.hand.samples
          = some { level := .high, count := 1 } := by decide

/-- R18, R187: the line falls silent: LINK_LOST, HOLD, and the local step timer steps the lamp. -/
theorem test_silent_line :
    let s := tower .mid .run
    let t := after .frameTimeout (s.withLine { s.line with frameTimer := some { length := 1500, left := 0 } })
    let u := after .localStepTimerExpiry (t.withLamp { stepCount := 65535, stepTimer := some { length := 500, left := 0 } })
    t.ctrl.node = .hold ∧ t.ctrl.holds.linkLost = true ∧ u.lamp.stepCount = 0 := by decide

/-- R191: RESETn low holds the outputs and keeps the straps. -/
theorem test_pin_reset :
    let t := after .pinReset (driving (tower .mid .run) .running)
    t.released = false ∧ t.driveRun = false ∧ t.power.index = 1 := by decide

/-- R174: a SOFT line reset keeps the table, a HARD one does not. -/
theorem test_soft_and_hard_reset :
    (after .lineResetEffect (after (.lineReset (ask 0 { zeros with b0 := 1 })) (tower .mid .run))).params.radius = 4000
      ∧ (after .lineResetEffect (after (.lineReset (ask 0 zeros)) (tower .mid .run))).params.radius = 0 := by decide

/-- R126, R127: the on-time ends in RESTING with MIN_OFF running, and the period's end starts the next one. -/
theorem test_rest_and_next_period :
    let s := (tower .mid .run).withDemand { DemandBlock.reset with d := 350 }
    let r : State := driving (s.withDrive { s.drive with onTime := 210, period := some { length := 60000, left := 39000 } })
      .running
    let t := after .onTimeEnd r
    let u := after .restingEnd (t.withDrive { t.drive with
      period := some { length := 60000, left := 0 }, phase := some { length := 2000, left := 0 } })
    t.drive.st = .resting ∧ t.drive.phase = some { length := 2000, left := 2000 } ∧ after .restingEnd t = t
      ∧ u.drive.st = .starting ∧ u.drive.onTime = 210 := by decide

/-! ## Witnesses: for each statement with hypotheses, a state and operands that meet them, clause by clause -/

theorem witness_StepRunsFrontCommand :
    ((tower .mid .run).withPending [.wheelTooth, .stall]).pending = .wheelTooth :: [.stall] ∧ State.reset.pending = [] := by
  decide

theorem witness_OnlyInitialisationChangesStraps :
    (∀ index role, Instr.pinReset ≠ .initialisationEnd index role)
      ∧ (after .powerOnReset State.reset).power.initialising = true :=
  ⟨fun _ _ h => (by cases h), by decide⟩

theorem witness_HeldResetRestsOutputs :
    State.reset.power.supplyOk = false ∧ (tower .mid .run).power.supplyOk = true ∧ State.reset.released = false
      ∧ Instr.stall ≠ .powerOnReset ∧ Instr.stall ≠ .supplyLoss ∧ Instr.stall ≠ .pinReset
      ∧ Instr.stall ≠ .pinResetRelease ∧ ∀ index role, Instr.stall ≠ .initialisationEnd index role :=
  ⟨by decide, by decide, by decide, by decide, by decide, by decide, by decide, fun _ _ h => by cases h⟩

theorem witness_PinResetAndRelease : (after .pinReset (tower .mid .run)).power.resetLow = true := by decide

/-- A tower in which a line reset waits, its outer pair as given. -/
def ordered (k : LineResetKind) (tx : TxBuffer) : State :=
  (tower .mid .run).withLine { LineBlock.reset with waitingReset := some k, txOuter := tx }

theorem witness_LineResetTakesEffect :
    (ordered .soft (.sending frame300)).released = true
      ∧ (ordered .soft (.sending frame300)).line.waitingReset = some .soft
      ∧ (ordered .soft (.sending frame300)).line.txOuter ≠ .empty
      ∧ (ordered .soft (.sending frame300)).line.txOuter = .sending frame300
      ∧ (∀ f, (ordered .soft (.sending frame300)).outboundTx ≠ .taken f)
      ∧ (∀ f, (ordered .hard .empty).line.txInner ≠ .taken f)
      ∧ (let s := (tower .mid .run).withLine { LineBlock.reset with waitingReset := some .hard, txInner := .sending [1] }
         s.line.txInner = .sending [1])
      ∧ (∀ k, (ordered k .empty).released = true ∧ (ordered k .empty).line.waitingReset = some k
          ∧ (ordered k .empty).line.txInner = .empty ∧ (ordered k .empty).line.txOuter = .empty) := by
  refine ⟨by decide, by decide, by decide +kernel, rfl, ?_, ?_, by decide, fun k => by cases k <;> decide⟩
  · intro f h; cases h
  · intro f h; cases h

/-- R22, R35: a frame taken before the order is still processed and sent; the reset acts once it has left. -/
theorem test_taken_frame_leaves_before_line_reset :
    let t := after .outboundProcessing (after .lineResetEffect (ordered .soft (.taken frame300)))
    TxBuffer.isSending t.line.txOuter = true ∧ t.line.lastOut = 300
      ∧ (after .lineResetEffect (after (.transmitComplete .outer) t)).line = LineBlock.reset := by decide +kernel

theorem witness_FailingFrameIsDiscarded :
    (tower .endNode .run).released = true ∧ (tower .endNode .run).line.waitingReset = none
      ∧ (tower .endNode .run).power.role = .endNode
      ∧ BurstFails .inner (burstOf (frame300.take 33))
      ∧ BurstFails .inner [{ data := 0x3A#8, stopOk := false }]
      ∧ BurstFails .outer (burstOf frame300) :=
  ⟨by decide, by decide, by decide, Or.inr (Or.inl (by decide +kernel)), Or.inl ⟨_, List.mem_singleton_self _, rfl⟩,
    by unfold BurstFails; decide +kernel⟩

/-- frame300 passes on the inner link. -/
theorem frame300_passes : ¬BurstFails .inner (burstOf frame300) := by unfold BurstFails; decide +kernel

/-- inbound300 passes on the outer link. -/
theorem inbound300_passes : ¬BurstFails .outer (burstOf inbound300) := by unfold BurstFails; decide +kernel

/-- The tower with these hold causes, in HOLD. -/
def holding (holds : HoldCauses) : State :=
  (tower .mid .hold).withCtrl { (tower .mid .hold).ctrl with holds := holds }

theorem witness_OutboundFrameIsTaken :
    ¬BurstFails .inner (burstOf frame300)
      ∧ (∀ role, (tower role .run).released = true
        ∧ (tower role .run).line.waitingReset = none ∧ (tower role .run).line.rxInner = none
        ∧ (tower role .run).outboundTx = .empty ∧ (tower role .run).power.role = role
        ∧ (tower role .run).ctrl.holds.linkLost = false)
      ∧ (holding { noHolds with linkLost := true }).ctrl.node = .hold
      ∧ (holding { noHolds with linkLost := true }).ctrl.holds.linkLost = true :=
  ⟨frame300_passes, fun role => by cases role <;> decide, by decide, by decide⟩

/-- R50: LINK_LOST, the last cause, leaves at the arrival and the node goes from HOLD to RUN. -/
theorem test_arrival_ends_hold :
    (after (.frameArrival .inner (burstOf frame300)) (holding { noHolds with linkLost := true })).ctrl.node = .run := by
  decide +kernel

/-- A tower with this Line Interface. -/
def lined (role : Role) (x : LineBlock) : State := (tower role .run).withLine x

theorem witness_BlockedFrameWaitsOrDisplaces :
    ¬BurstFails .outer (burstOf inbound300) ∧ ¬BurstFails .inner (burstOf frame300)
      ∧ (tower .mid .run).released = true ∧ (tower .mid .run).line.waitingReset = none
      ∧ (tower .mid .run).power.role = .mid ∧ (tower .mid .run).line.rxOuter = none
      ∧ (tower .mid .run).line.txInner = .empty
      ∧ (lined .mid { LineBlock.reset with txInner := .sending inbound300 }).line.txInner ≠ .empty
      ∧ (lined .mid { LineBlock.reset with rxOuter := some [] }).line.rxOuter = some []
      ∧ (lined .mid { LineBlock.reset with rxInner := some [] }).line.rxInner ≠ none
      ∧ (lined .mid { LineBlock.reset with txOuter := .sending [] }).outboundTx ≠ .empty :=
  ⟨inbound300_passes, frame300_passes, by decide, by decide, by decide, by decide, by decide, by decide +kernel, by decide,
    by decide, by decide⟩

theorem witness_TransmissionEndTakesWaitingFrame :
    (let s := lined .mid { LineBlock.reset with txOuter := .sending [1], rxInner := some [2] }
     s.released = true ∧ s.power.role = .mid ∧ s.line.txOuter = .sending [1] ∧ s.line.waitingReset = none
       ∧ s.line.rxInner = some [2])
    ∧ (let s := lined .mid { LineBlock.reset with txInner := .sending [1], rxOuter := some [2] }
       s.line.txInner = .sending [1] ∧ s.line.rxOuter = some [2])
    ∧ (let s := lined .endNode { LineBlock.reset with txInner := .sending [1], rxInner := some [2] }
       s.power.role = .endNode ∧ s.line.txInner = .sending [1] ∧ s.line.rxInner = some [2])
    ∧ (lined .mid { LineBlock.reset with txOuter := .sending [1] }).line.rxInner = none
    ∧ (lined .mid { LineBlock.reset with txInner := .sending [1] }).line.rxOuter = none := by decide

theorem witness_FrameTimeoutHoldsNode :
    (let s := lined .mid { LineBlock.reset with frameTimer := some { length := 1500, left := 0 } }
     s.released = true ∧ s.line.frameTimer = some { length := 1500, left := 0 } ∧ s.ctrl.node = .run
       ∧ s.ctrl.holds.linkLost = false ∧ s.RunConditions ∧ s.handActive = false)
    ∧ (holding { noHolds with linkLost := true }).ctrl.holds.linkLost = true
    ∧ (lined .mid { LineBlock.reset with frameTimer := some { length := 1500, left := 1 } }).line.frameTimer
        = some { length := 1500, left := 1 }
    ∧ (tower .mid .run).line.frameTimer = none :=
  ⟨⟨rfl, rfl, rfl, rfl, by unfold State.RunConditions; decide, by decide⟩, by decide, rfl, rfl⟩

/-- The return record of a MID node whose record has not come back, with this miss count (RETURN_MISS_LIMIT is 2). -/
def missed (count : Nat) : State :=
  lined .mid { LineBlock.reset with returnRec := some { seq := 299, returned := false }, missCount := count }

theorem witness_ReturnMissIsCounted :
    (missed 1).power.role = .mid ∧ (missed 1).line.returnRec = some { seq := 299, returned := false }
      ∧ (missed 1).params.returnMissLimit ≤ (missed 1).line.missCount + 1
      ∧ (missed 0).line.missCount + 1 < (missed 0).params.returnMissLimit
      ∧ (tower .mid .run).line.returnRec = none
      ∧ (lined .mid { LineBlock.reset with returnRec := some { seq := 299, returned := true } }).line.returnRec
          = some { seq := 299, returned := true }
      ∧ (missed 1).ctrl.node = .run ∧ (missed 1).ctrl.holds.returnLost = false ∧ (missed 1).RunConditions :=
  ⟨by decide, by decide, by decide, by decide, by decide, by decide, by decide, by decide,
    by unfold State.RunConditions; decide⟩

/-- The same return with its chain OPEN. -/
def inboundOpen : Frame := frameOf 0x0D#8 300 0 2000 0 [slotWith 0x01#8 0] []

theorem witness_InboundFrameIsForwardedAndLatched :
    let s (f : Frame) := lined .mid { LineBlock.reset with
      txInner := .taken f, returnRec := some { seq := 300, returned := false } }
    let held (f : Frame) := ((s f).withNode .hold).withCtrl { (s f).ctrl with
      node := .hold, holds := { noHolds with chain := true } }
    ((s inbound300).released = true ∧ (s inbound300).power.role = .mid
      ∧ (s inbound300).line.txInner = .taken inbound300
      ∧ (s inbound300).line.returnRec = some { seq := frameSeq inbound300, returned := false }
      ∧ (lined .mid { LineBlock.reset with txInner := .taken inbound300 }).line.returnRec
          ≠ some { seq := frameSeq inbound300, returned := false }
      ∧ frameChainOpen inboundOpen = true ∧ (s inboundOpen).ctrl.holds.chain = false
      ∧ (s inboundOpen).line.returnRec = some { seq := frameSeq inboundOpen, returned := false }
      ∧ (s inboundOpen).slot.outChain ≠ .openedHere ∧ (s inboundOpen).ctrl.node = .run
      ∧ (((s inboundOpen).withSlot { (s inboundOpen).slot with outChain := .openedHere }).slot.outChain = .openedHere)
      ∧ frameChainOpen inbound300 = false ∧ (held inbound300).slot.outChain = .closed
      ∧ (held inbound300).ctrl.node = .hold ∧ (held inbound300).ctrl.holds.chain = true
      ∧ (held inbound300).ctrl.holds.linkLost = false ∧ (held inbound300).ctrl.holds.noSlot = false)
      ∧ (s inboundOpen).RunConditions ∧ (held inbound300).RunConditions :=
  ⟨by decide +kernel, by unfold State.RunConditions; decide, by unfold State.RunConditions; decide⟩

theorem witness_TakenFrameIsProcessedAndSent :
    (lined .mid { LineBlock.reset with txOuter := .taken frame300 }).released = true
      ∧ (lined .mid { LineBlock.reset with txOuter := .taken frame300 }).outboundTx = .taken frame300
      ∧ (lined .endNode { LineBlock.reset with txInner := .taken frame300 }).outboundTx = .taken frame300
      ∧ FrameSized serviceFrame ∧ frameService serviceFrame = true
      ∧ (tower .mid .run).line.waitingReset = none
      ∧ ((tower .mid .run).throughChain serviceFrame).table.pendingSwap = false
      ∧ (frameRecord serviceFrame).result = 0#8
      ∧ ((frameRecord serviceFrame).op, Instr.writeParam (requestOf (frameRecord serviceFrame)))
          ∈ serviceCommands (requestOf (frameRecord serviceFrame))
      ∧ ¬inRange 1 10 (frameRecord unknownFrame).op.toNat
      ∧ ((tower .mid .run).throughService frame300).wheel.counter < towerEight.stallTicks
      ∧ ((tower .mid .run).throughService frame300).inSector .watch = false
      ∧ (let s := watching 12000
         (s.throughService frame300).wheel.frozen = false ∧ (s.throughService frame300).inSector .watch = true
           ∧ towerEight.stallTicks / 2 ≤ (s.throughService frame300).wheel.counter
           ∧ (s.throughService frame300).params.tripEnables.stall = true
           ∧ (s.throughService frame300).handActive = false ∧ (s.throughService frame300).ctrl.node = .run)
      ∧ (let s := withReading (tower .mid .run) 1176 618 5255
         (s.throughService frame300).drive.st = .starting ∧ (s.throughService frame300).drdyActive = false
           ∧ ((withPin s .drdy .high).throughService frame300).drive.st = .starting
           ∧ ((withPin s .drdy .high).throughService frame300).drdyActive = true) := by
  refine ⟨by decide +kernel, by decide +kernel, by decide +kernel, by unfold FrameSized; decide +kernel, by decide +kernel,
    by decide, by decide +kernel, by decide +kernel, by decide +kernel, by unfold inRange; decide +kernel, by decide +kernel,
    by decide +kernel, by decide +kernel, by decide +kernel⟩

/-- R34: stage 8 writes the staging bank and answers DONE in the frame it sends on. -/
theorem test_processing_serves_record :
    let x := (tower .mid .run).processFrame serviceFrame
    x.1.stagingBank.params.radius = 2400 ∧ (frameRecord x.2).result = 0x01#8 := by decide +kernel

/-- R109: the counter at 12000 as the WATCH sector is entered raises STALL at the end of that processing. -/
theorem test_stall_at_end_of_processing :
    ((watching 12000).throughMotion frame300).wheel.frozen = false
      ∧ ((watching 12000).processFrame frame300).1.wheel.frozen = true
      ∧ ((watching 9999).processFrame frame300).1.wheel.frozen = false := by decide +kernel

/-- frame300 has the length its header gives, at the least slot count. -/
theorem frame300_sized : FrameSized frame300 := by unfold FrameSized; decide +kernel

theorem witness_ForwardedFrameLaw :
    FrameSized frame300 ∧ ¬(tower .mid .run).MayChange frame300 2 ∧ ¬(tower .mid .run).MayChange frame300 14
      ∧ ¬(tower .mid .run).MayChange frame300 11 ∧ (tower .mid .run).power.role = .mid
      ∧ FrameSized serviceFrame ∧ frameService serviceFrame = true :=
  ⟨frame300_sized, by unfold State.MayChange; decide +kernel, by unfold State.MayChange; decide +kernel,
    by unfold State.MayChange; decide +kernel, by decide, by unfold FrameSized; decide +kernel, by decide +kernel⟩

/-- frame300 in machine mode STOP. -/
def stopFrame : Frame := frameOf 0x00#8 300 0 2000 1000 [slotWith 0x01#8 0] []

/-- R29, R45, R132, R133: machine mode STOP takes a RUN node out of RUN, and its RUNNING drive to STOPPING for STOP_TIME. -/
theorem test_machine_stop_stops_drive :
    let t := (driving (tower .mid .run) .running).throughMotion stopFrame
    t.ctrl.node = .idle ∧ t.drive.st = .stopping ∧ t.drive.phase = some { length := 2000, left := 2000 } := by
  decide +kernel

/-- frame300 with its chain OPEN, opened by tower 9. -/
def openFrame : Frame := setChainOpen frame300 9#8

theorem witness_CeilingNeverRises :
    FrameSized stopFrame ∧ ((tower .mid .run).throughMotion stopFrame).ctrl.node ≠ .run :=
  ⟨by unfold FrameSized; decide +kernel, by decide +kernel⟩

theorem witness_StoppedNodeOpensChain :
    FrameSized frame300 ∧ FrameSized openFrame
      ∧ ((tripped (tower .mid .tripped) .stall 0).throughMotion frame300).ctrl.node = .tripped
      ∧ frameChainOpen frame300 = false ∧ frameChainOpen openFrame = true
      ∧ ((tower .mid .run).throughMotion frame300).ctrl.node = .run
      ∧ (tower .mid .run).power.role = .mid ∧ (tower .mid .run).ctrl.holds.chain = false
      ∧ (holding { noHolds with chain := true }).ctrl.holds.chain = true
      ∧ (slotClearSet openFrame (tower .mid .run).indexNat).getLsbD 7 = false
      ∧ ((tower .mid .run).withPower { (tower .mid .run).power with index := 2 }).ownsSlot openFrame = false
      ∧ (tower .mid .run).ctrl.node = .run ∧ (tower .mid .run).RunConditions :=
  ⟨frame300_sized, by unfold FrameSized; decide +kernel, by decide +kernel, by decide +kernel, by decide +kernel,
    by decide +kernel, by decide, by decide, by decide, by decide +kernel, by decide +kernel, by decide,
    by unfold State.RunConditions; decide⟩

theorem witness_StatusDescribesNode :
    FrameSized frame300 ∧ (tower .mid .run).ownsSlot frame300 = true
      ∧ ((tower .mid .run).throughMotion frame300).ctrl.trip = none
      ∧ ((tripped (tower .mid .tripped) .stall 255).throughMotion frame300).ctrl.trip
          = some { cause := .stall, seq := 7, extra := 255 } :=
  ⟨frame300_sized, by decide +kernel, by decide +kernel, by decide +kernel⟩

theorem witness_EndTurnsAndLatches : FrameSized frame300 ∧ (tower .endNode .run).power.role = .endNode :=
  ⟨frame300_sized, by decide⟩

/-- A tower with a commit pending, this staged parameter set, and this drive state. -/
def swapping (new : Params) (n : NodeState) (st : DriveState) : State :=
  let s := (driving (tower .mid n) st).withStaging { params := new, entries := [] }
  s.withSlot { s.slot with pendingCommit := true }

/-- A swap that turns SAFE and DRDY inactive together, in RUN with the drive RUNNING. -/
def safeDrdySwap : State :=
  withPin (swapping { towerEight with inputPolarity := { towerEight.inputPolarity with safe := true, drdy := true } }
    .run .running) .drdy .high

/-- R178, R130, R53, R55: DRDY lost at the swap is the first cause, and SAFE, whose request waited for stage 4, counts once. -/
theorem test_safe_and_drdy_turn_together :
    let t := safeDrdySwap.throughMotion frame300
    t.ctrl.node = .tripped ∧ t.ctrl.trip.map (·.cause) = some .driveFault ∧ t.ctrl.trip.map (·.extra) = some 1 := by
  decide +kernel

theorem witness_PendingCommitSwapsBanks :
    (tower .mid .run).slot.pendingCommit = false
    ∧ (let s := swapping towerRate .run .running
       s.slot.pendingCommit = true ∧ s.joint.fresh = false ∧ s.params.inputPolarity = towerRate.inputPolarity
         ∧ s.line.missCount < towerRate.returnMissLimit ∧ s.params.driveMode ≠ s.stagingBank.params.driveMode
         ∧ s.drive.st = .running ∧ s.stagingBank.params.stopTime ≠ 0)
    ∧ (withReading (swapping towerEight .run .off) 1000 770 7700).joint.fresh = true
    ∧ (let s := swapping { towerEight with returnMissLimit := 1 } .run .off
       s.power.role = .mid ∧ s.stagingBank.params.returnMissLimit
         ≤ (s.withLine { s.line with missCount := 1 }).line.missCount)
    ∧ (let s := swapping { towerEight with inputPolarity := { towerEight.inputPolarity with safe := true, aux := true } }
         .run .off
       s.params.inputPolarity.safe ≠ s.stagingBank.params.inputPolarity.safe ∧ s.safeActive = true ∧ s.ctrl.node = .run
         ∧ s.params.inputPolarity.aux ≠ s.stagingBank.params.inputPolarity.aux
         ∧ (withPin s .aux .low).inputs.aux.pin = some .low ∧ s.params.auxEdge = s.stagingBank.params.auxEdge)
    ∧ (let s := safeDrdySwap
       s.slot.pendingCommit = true ∧ s.params.inputPolarity.safe ≠ s.stagingBank.params.inputPolarity.safe
         ∧ s.safeActive = true ∧ s.params.inputPolarity.drdy ≠ s.stagingBank.params.inputPolarity.drdy
         ∧ s.drdyActive = true ∧ s.params.inputPolarity.hand = s.stagingBank.params.inputPolarity.hand
         ∧ s.handActive = false ∧ s.ctrl.node = .run ∧ s.drive.st = .running
         ∧ s.params.driveMode = s.stagingBank.params.driveMode
         ∧ s.line.missCount < s.stagingBank.params.returnMissLimit)
    ∧ (swapping towerRate .run .resting).drive.st = .resting ∧ (swapping towerRate .run .off).drive.st = .off
    ∧ (swapping towerEight .run .off).params.driveMode = (swapping towerEight .run .off).stagingBank.params.driveMode
    ∧ (swapping towerEight .run .off).power.role = .mid := by decide

/-- frame300 with the status marker already set in slot 1. -/
def markedFrame : Frame := sealFrame (frame300.set 15 0x80#8)

/-- The tower with index 2, beyond the one slot of frame300. -/
def towerTwo : State := (tower .mid .run).withPower { (tower .mid .run).power with index := 2 }

theorem witness_SlotSituationDecides :
    1 ≤ towerTwo.power.index.toNat ∧ towerTwo.power.index.toNat ≤ 30 ∧ frameSlots frame300 < towerTwo.power.index.toNat
      ∧ 1 ≤ (tower .mid .run).power.index.toNat ∧ (tower .mid .run).power.index.toNat ≤ frameSlots frame300
      ∧ slotMarker frame300 1 = false ∧ slotMarker markedFrame 1 = true ∧ frameSlots markedFrame = 1
      ∧ (tower .mid .idle).DriveLaw ∧ (tower .mid (.standby false)).ctrl.node = .standby false
      ∧ ((tower .mid (.standby true)).withPower { (tower .mid .run).power with index := 0 }).power.index.toNat = 0
      ∧ ((tower .mid (.standby true)).withPower { (tower .mid .run).power with index := 31 }).power.index.toNat = 31
      ∧ ((tower .mid (.standby true)).withPower { (tower .mid .run).power with index := 31 }).ctrl.node = .standby true
      ∧ (∀ n ∈ [NodeState.idle, .run, .hold, .standby false],
          let u := ((((tower .mid n).takeOutbound frame300).stageSwap frame300).stageLocate frame300).stageCommand frame300
            ((tower .mid n).ownsSlot frame300)
          u.ctrl.node = n ∧ u.handActive = false ∧ u.safeActive = true ∧ u.tripRequests frame300 = []) :=
  ⟨by decide, by decide, by decide +kernel, by decide, by decide +kernel, by decide +kernel, by decide +kernel,
    by decide +kernel, by unfold State.DriveLaw; decide, by decide, by decide, by decide, by decide, by decide +kernel⟩

theorem witness_TripRequestIsTaken :
    (tower .mid (.standby true)).ctrl.node = .standby true
      ∧ (tower .mid .run).handActive = false ∧ (tower .mid .run).ctrl.node = .run
      ∧ (tripped (tower .mid .tripped) .stall 255).ctrl.node = .tripped
      ∧ (tripped (tower .mid .tripped) .stall 255).ctrl.trip = some { cause := .stall, seq := 7, extra := 255 }
      ∧ (tower .mid .manual).ctrl.node = .manual ∧ (tower .mid .manual).ctrl.trip = none
      ∧ TripCause.safe ≠ .stall ∧ TripCause.safe ≠ .driveFault
      ∧ (tripped (tower .mid .manual) .stall 254).ctrl.trip = some { cause := .stall, seq := 7, extra := 254 } := by decide

/-- At the boundary of SAFETY_LIMIT 900: duty 7697 reads 899, duty 7700 reads 900. -/
theorem witness_DriveResetIsJudged :
    (let s := withReading (tripped (tower .mid .tripped) .stall 0) 1000 770 7697
     s.released = true ∧ s.line.waitingReset = none ∧ 1 ≤ s.power.index.toNat ∧ s.power.index.toNat ≤ 30
       ∧ s.ctrl.node = .tripped ∧ s.DriveResetAccepted ∧ s.tableState ≠ .manual)
    ∧ (tripped (tower .endNode .tripped) .stall 0).DriveResetAccepted
    ∧ ¬(withReading (tripped (tower .mid .tripped) .stall 0) 1000 770 7700).DriveResetAccepted
    ∧ ¬(driving (tripped (tower .endNode .tripped) .stall 0) .stopping).DriveResetAccepted
    ∧ (tower .mid .run).ctrl.node ≠ .tripped := by
  refine ⟨⟨by decide, by decide, by decide, by decide, by decide, ⟨by decide, Or.inr ⟨by decide, _, rfl, by decide⟩,
    by decide⟩, by decide⟩, ⟨by decide, Or.inl rfl, Or.inl rfl⟩, ?_, ?_, by decide⟩
  · rintro ⟨-, h | ⟨-, r, hr, h⟩, -⟩
    · exact absurd h (by decide)
    · cases hr; exact absurd h (by decide)
  · rintro ⟨-, -, h⟩; exact absurd h (by decide)

theorem witness_ClearSetClearsNamedFlags :
    (tower .mid .run).released = true ∧ (tower .mid .run).line.waitingReset = none
      ∧ 1 ≤ (tower .mid .run).power.index.toNat ∧ (tower .mid .run).power.index.toNat ≤ 30 := by decide

theorem witness_TopEventLaw :
    let x : EventBlock := { flags := 0x8001#16, enable := 0xFFFF#16, high := 0x8000#16 }
    topEvent x ≠ 0 ∧ hasEvent x.flags .aux = true ∧ hasEvent x.enable .aux = true ∧ hasEvent x.flags .alignTrip = true
      ∧ topEvent EventBlock.reset = 0 ∧ FrameSized frame300 ∧ (tower .mid .run).ownsSlot frame300 = true :=
  ⟨by decide, by decide, by decide, by decide, by decide, frame300_sized, by decide +kernel⟩

/-- towerEight lies within the ranges of R141. -/
theorem towerEight_inRange : Params.InRange towerEight := by
  constructor <;> simp [inRange, LampPattern.InRange, towerEight, Params.default, defaultLampRun, defaultLampHold,
    defaultLampFault, defaultLampSector]

/-- The third part's clauses about stage 4: the angle of a MID node with and without a valid reading, and of END. -/
theorem witness_MotionStepsFollowFormulas :
    let dv (omega : Nat) (theta : Int) := speedCorrection towerEight .mid (effectiveRate omega 1000 1000 false) 1 theta
    let v (omega : Nat) (theta : Int) : Int :=
      (linearSpeed (effectiveRate omega 1000 1000 false) towerEight.radius : Int) + dv omega theta
    towerEight.radius ≠ 0 ∧ towerEight.vmax ≠ 0 ∧ (towerEight.vmax : Int) < v 6000 85 ∧ v 200 (-150) < 0
      ∧ 0 ≤ v 0 0 ∧ v 2000 85 ≤ towerEight.vmax ∧ Params.InRange towerEight
      ∧ effectiveRate 0 1000 1000 false = 0
      ∧ ((tower .mid .run).stageMotion frame300).ctrl.node = .run
      ∧ ((tower .mid .run).stageMotion frame300).drive.dirChange = false
      ∧ (tower .endNode .run).power.role = .endNode ∧ (tower .mid .run).power.role = .mid
      ∧ (tower .mid .run).joint.valid = false ∧ (withReading (tower .mid .run) 1176 618 5255).joint.valid = true
      ∧ (withReading (tower .mid .run) 1176 618 5255).joint.reading
          = some { period := 1176, high := 618, duty := 5255 } :=
  ⟨by decide, by decide, by decide, by decide, by decide, by decide, towerEight_inRange, by decide, by decide +kernel,
    by decide +kernel, by decide, by decide, by decide, by decide, by decide⟩

/-- A tower whose lookup stands at an entry of factor 600 with this action. -/
def inEntry (action : SectorAction) : State :=
  (tower .mid .run).withTable { (tower .mid .run).table with
    lookup := some { index := 0, entry := { sector 0 100 with action := action } } }

/-- The angles 0 and 35999 of a wrapping entry, and the pivot at the edge of the valid angles. -/
theorem witness_SectorLimitsTower :
    (0 < 36000 ∧ 35999 < 36000 ∧ (sector 4210 4260).start < (sector 4210 4260).stop
      ∧ (sector 35800 100).stop < (sector 35800 100).start)
    ∧ lookupIn [sector 4210 4260, sector 4260 4330] 4260 = some { index := 1, entry := sector 4260 4330 }
    ∧ framePivot (frameOf 0x04#8 1 35999 0 0 [slotWith 0 0] []) = 35999
    ∧ framePivot (frameOf 0x04#8 1 36000 0 0 [slotWith 0 0] []) = 36000
    ∧ (tower .mid .run).table.lookup = none
    ∧ (inEntry .limit).table.lookup = some { index := 0, entry := sector 0 100 } ∧ (sector 0 100).action ≠ .halt
    ∧ (inEntry .halt).table.lookup = some { index := 0, entry := { sector 0 100 with action := .halt } }
    ∧ (inEntry .halt).slot.haltPass = false
    ∧ ((inEntry .halt).withSlot { (inEntry .halt).slot with haltPass := true }).slot.haltPass = true := by decide +kernel

/-- 06, R66: HALT stops the tower at factor 0, and at its factor when HALT_PASS is set. -/
theorem test_halt_and_halt_pass :
    (inEntry .halt).ownLimit = 0
      ∧ ((inEntry .halt).withSlot { (inEntry .halt).slot with haltPass := true }).ownLimit = 600 := by decide

/-- frame300 at rate 6001, out of its field's range (R87). -/
def fastFrame : Frame := frameOf 0x04#8 300 0 6001 1000 [slotWith 0x01#8 0] []

/-- Every condition enabled as a trip. -/
def tripAll : Params :=
  { towerEight with tripEnables := { joint := true, overSpeed := true, underSpeed := true, field := true, stall := true } }

theorem witness_ConditionsTripInOrder :
    (((tower .mid .run).beginMotion frame300).ctrl.node = .run ∧ (tower .mid .run).handActive = false
      ∧ (tower .mid .run).tripRequests frame300 = [])
    ∧ (towerWith tripAll .mid .run).tripRequests fastFrame = [.joint, .overSpeed, .field]
    ∧ (let s := tripped (towerWith tripAll .mid .tripped) .stall 254
       (s.beginMotion fastFrame).ctrl.node = .tripped
         ∧ (s.beginMotion fastFrame).ctrl.trip = some { cause := .stall, seq := 7, extra := 254 })
    ∧ ((withPin (tower .mid .manual) .hand .high).beginMotion frame300).ctrl.node = .manual
    ∧ ((tower .mid (.standby true)).beginMotion frame300).ctrl.node = .standby true
    ∧ (let s := tower .mid (.standby false)
       s.handActive = false ∧ s.safeActive = true ∧ s.tripRequests frame300 = [] ∧ (withPin s .safe .low).safeActive = false
         ∧ (withPin s .hand .high).handActive = true)
    ∧ (let s := driving (tower .mid .run) .running
       s.ctrl.node = .run ∧ s.handActive = false ∧ (s.stageMotion stopFrame).ctrl.node ≠ .run)
    ∧ (tower .mid .tripped).ctrl.node = .tripped ∧ (tower .mid .tripped).handActive = false := by decide +kernel

/-- R45: RUN_PERMIT and machine mode RUN take IDLE to RUN; machine mode STOP takes RUN to IDLE. -/
theorem test_stage_four_evaluates :
    ((tower .mid .idle).throughMotion frame300).ctrl.node = .run
      ∧ ((tower .mid .run).throughMotion stopFrame).ctrl.node = .idle := by decide +kernel

/-- R54: the first request is the cause, the others count. -/
theorem test_requests_in_order :
    ((towerWith tripAll .mid .run).stageMotion fastFrame).ctrl.trip
      = some { cause := .joint, seq := 0, extra := 2 } := by decide +kernel

theorem witness_SensorFormulas :
    Params.InRange towerEight ∧ readingValid towerEight { period := 800, high := 40, duty := 500 } = true
      ∧ readingValid towerEight { period := 1200, high := 1140, duty := 9500 } = true :=
  ⟨towerEight_inRange, by decide, by decide⟩

theorem witness_JointEdgesMeasure :
    (tower .mid .run).released = true ∧ (tower .mid .run).power.role = .mid
      ∧ (tower .mid .run).joint.measurement = .unarmed
      ∧ ((tower .mid .run).withJoint { JointBlock.reset with measurement := .measuring 65535 0 true }).joint.measurement
          = .measuring 65535 0 true
      ∧ ((tower .mid .run).withJoint { JointBlock.reset with measurement := .measuring 618 618 false }).joint.measurement
          = .measuring 618 618 false := by decide

theorem witness_JointAngleIsTaken :
    (tower .endNode .run).power.role = .endNode ∧ (tower .mid .run).power.role = .mid
      ∧ (withReading (tower .mid .run) 1000 770 7700).joint.valid = true
      ∧ (withReading (tower .mid .run) 1000 770 7700).joint.reading = some { period := 1000, high := 770, duty := 7700 }
      ∧ (tower .mid .run).joint.valid = false
      ∧ min (tower .mid .run).params.holdLimit
          (((tower .mid .run).withJoint { JointBlock.reset with holdCount := 3 }).joint.holdCount + 1)
        = (tower .mid .run).params.holdLimit := by decide

theorem witness_AlignmentTripStopsNode :
    let s := withReading (tower .mid .run) 1000 770 7700
    let r : Reading := { period := 1000, high := 770, duty := 7700 }
    s.ctrl.node = .run ∧ s.handActive = false ∧ s.safeActive = true ∧ s.slot.runPermit = true
      ∧ frameMachineRun frame300 = true ∧ s.params.radius ≠ 0 ∧ s.params.vmax ≠ 0 ∧ s.ctrl.holds = noHolds
      ∧ s.power.role = .mid ∧ s.joint.valid = true ∧ s.joint.reading = some r
      ∧ s.params.safetyLimit ≤ (jointAngle s.params r).natAbs := by decide

/-- A RUNNING tower with this Wheel Monitor. -/
def wheeled (x : WheelBlock) : State := (driving (tower .mid .run) .running).withWheel x

theorem witness_ToothClosesInterval :
    (wheeled { WheelBlock.reset with frozen := true }).wheel.frozen = true
      ∧ (wheeled WheelBlock.reset).released = true ∧ (wheeled WheelBlock.reset).wheel.armed = false
      ∧ (wheeled { WheelBlock.reset with armed := true }).wheel.counter = 0
      ∧ (wheeled { WheelBlock.reset with armed := true, counter := 65535 }).wheel.counter ≠ 0
      ∧ ¬(wheeled { WheelBlock.reset with armed := true, counter := 65535 }).wheel.counter ≤ 65534
      ∧ (wheeled { WheelBlock.reset with armed := true, counter := 65534 }).drive.st = .running
      ∧ min 1000 (1000 * measuredSpeed towerEight 65534 false / towerEight.vmax) < towerEight.dragThreshold
      ∧ towerEight.dragThreshold ≤ min 1000 (1000 * measuredSpeed towerEight 4821 false / towerEight.vmax) := by decide

theorem witness_StallFreezesAndTrips :
    (wheeled { WheelBlock.reset with frozen := true }).wheel.frozen = true
      ∧ (wheeled { WheelBlock.reset with counter := 19999 }).wheel.counter < towerEight.stallTicks
      ∧ towerEight.stallTicks ≤ (wheeled { WheelBlock.reset with counter := 20000 }).wheel.counter
      ∧ (wheeled { WheelBlock.reset with counter := 20000 }).wheel.frozen = false
      ∧ (wheeled WheelBlock.reset).inSector .watch = false
      ∧ (wheeled WheelBlock.reset).params.tripEnables.stall = true ∧ (wheeled WheelBlock.reset).ctrl.node = .run
      ∧ (wheeled WheelBlock.reset).handActive = false
      ∧ (let p := { towerEight with
          tripEnables := { joint := false, overSpeed := false, underSpeed := false, field := false, stall := false } }
         (towerWith p .mid .run).params.tripEnables.stall = false ∧ (towerWith p .mid .run).ctrl.node ≠ .manual)
      ∧ (let s := driving (tower .mid .manual) .running
         let t := s.withDrive { s.drive with jog := true }
         t.ctrl.node = .manual ∧ t.drive.jog = true ∧ DriveState.energizes t.drive.st = true) := by decide

theorem witness_TickCountsEnergizedTime :
    (let s := wheeled { WheelBlock.reset with level := some .low, lastSample := some .high }
     s.released = true ∧ s.wheel.level = some .low ∧ s.wheel.lastSample = some .high)
    ∧ (let s := wheeled { WheelBlock.reset with counter := 19999 }
       s.wheel.level ≠ some .low ∧ s.wheel.frozen = false ∧ s.wheelEnergized = true
         ∧ s.params.stallTicks ≤ min 65535 (s.wheel.counter + 1))
    ∧ (let s := wheeled { WheelBlock.reset with counter := 19998 }
       s.wheel.frozen = false ∧ min 65535 (s.wheel.counter + 1) < s.params.stallTicks) := by decide

/-- A tower whose SAFE has this run of samples of the level low. -/
def sampled (pin : Option Level) (count : Nat) : State :=
  ((tower .mid .run).withPower { (tower .mid .run).power with sampleDue := everySampleDue }).withInput .safe
    { pin := pin, samples := some { level := .low, count := count } }

theorem witness_SampleRunTakesLevel :
    (sampled (some .high) 2).released = true
      ∧ PerInput.get (sampled (some .high) 2).power.sampleDue .safe = true
      ∧ PerInput.get (sampled (some .high) 2).params.inputFilter .safe = .fast
      ∧ (PerInput.get (sampled (some .high) 2).inputs .safe).pin ≠ some .low
      ∧ (PerInput.get (sampled (some .high) 2).inputs .safe).samples = some { level := .low, count := 2 }
      ∧ (PerInput.get (sampled (some .high) 1).inputs .safe).samples = some { level := .low, count := 1 }
      ∧ (let p := { towerEight with inputFilter := { towerEight.inputFilter with aux := .unfiltered } }
         let s := withPin (towerWith p .mid .run) .aux .high
         PerInput.get s.params.inputFilter .aux = .unfiltered ∧ (PerInput.get s.inputs .aux).pin = some .high)
      ∧ (tower .mid .run).power.sampleDue.safe = false
      ∧ PerInput.get (sampled none 0).params.inputFilter .hand = .slow ∧ (sampled none 0).power.refTick = 0
      ∧ ((sampled none 0).withPower { (sampled none 0).power with refTick := 19 }).power.refTick ≠ 0
      ∧ (let s := sampled (some .high) 2
         let v := s.withInput .safe { pin := some .low, samples := some { level := .low, count := 3 } }
         v.inputActive .safe ≠ s.inputActive .safe)
      ∧ (tower .mid .run).inputs.aux.pin = none := by decide

theorem witness_InputChangeReachesReader :
    -- SAFE opens, in RUN and in LOCAL
    (let s := tower .mid .run
     s.released = true ∧ (PerInput.get s.inputs .safe).pin ≠ some .low ∧ s.safeActive = true ∧ s.handActive = false
       ∧ s.ctrl.node = .run)
    ∧ ((tower .mid .manual).safeActive = true ∧ (tower .mid .manual).ctrl.node = .manual)
    -- HAND closes in RUN, opens in LOCAL with a trip
    ∧ ((PerInput.get (tower .mid .run).inputs .hand).pin ≠ some .high ∧ (tower .mid .run).handActive = false)
    ∧ (let s := withPin (tripped (tower .mid .manual) .stall 0) .hand .high
       s.handActive = true ∧ s.ctrl.node = .manual ∧ s.ctrl.trip = some { cause := .stall, seq := 7, extra := 0 })
    -- HAND closes with the drive RUNNING, RESTING, OFF with a jog button held, and outside RUN
    ∧ (let s := driving (tower .mid .run) .running
       s.ctrl.node = .run ∧ s.drive.st = .running ∧ s.params.stopTime ≠ 0
         ∧ (driving s .resting).drive.st = .resting ∧ s.jogSelection = none
         ∧ (withPin (withPin (tower .mid .run) .jogF .high) .hand .high).jogSelection = some .forward
         ∧ (tower .mid .run).drive.st = .off ∧ (tower .mid .hold).ctrl.node = .hold)
    -- HAND opens with no demand
    ∧ ((tower .mid .manual).demand.d = 0)
    -- DRDY closes in STARTING, opens in RUNNING
    ∧ (let s := driving (tower .mid .run) .starting
       s.drdyActive = false ∧ s.drive.st = .starting ∧ (PerInput.get s.inputs .drdy).pin ≠ some .high)
    ∧ (let s := withPin (driving (tower .mid .run) .running) .drdy .high
       s.drdyActive = true ∧ s.drive.st = .running ∧ (PerInput.get s.inputs .drdy).pin ≠ some .low)
    -- AUX established and not
    ∧ (let s := withPin (tower .mid .run) .aux .low
       (PerInput.get s.inputs .aux).pin ≠ none ∧ (PerInput.get s.inputs .aux).pin ≠ some .high
         ∧ s.inputActive .aux = false)
    ∧ (PerInput.get (tower .mid .run).inputs .aux).pin = none
    -- the level already held
    ∧ (PerInput.get (tower .mid .run).inputs .safe).pin = some .high
    -- SAFE opens in TRIPPED
    ∧ (let s := tripped (tower .mid .tripped) .stall 255
       s.safeActive = true ∧ s.ctrl.trip = some { cause := .stall, seq := 7, extra := 255 })
    -- HAND opens in LOCAL without a trip, the drive energized, SAFE closed and open
    ∧ (let s := withPin (driving (tower .mid .manual) .running) .hand .high
       s.handActive = true ∧ s.ctrl.trip = none ∧ s.safeActive = true ∧ s.params.stopTime ≠ 0
         ∧ (withPin s .safe .low).safeActive = false)
    -- a jog begins, its DRDY open and closed
    ∧ (let s := withPin (tower .mid .manual) .jogF .low
       let u := withPin s .jogF .high
       s.drive.st = .off ∧ s.drive.lockout = false ∧ u.jogSelection = some .forward
         ∧ u.inputActive .jogF ≠ s.inputActive .jogF ∧ s.drdyActive = false ∧ (withPin s .drdy .high).drdyActive = true)
    -- a jog ends
    ∧ (let s := (withPin (driving (tower .mid .manual) .running) .jogF .high)
       let u := s.withDrive { s.drive with jog := true }
       u.drive.jog = true ∧ (withPin u .jogF .low).jogSelection ≠ some u.drive.dir ∧ u.params.stopTime ≠ 0)
    -- a lockout is cleared
    ∧ ((tower .mid .manual).withDrive { DriveBlock.reset with lockout := true }).drive.lockout = true := by decide

/-- A tower in this drive state with its phase timer at this time left. -/
def phased (s : State) (st : DriveState) (left : Nat) : State :=
  (driving s st).withDrive { (driving s st).drive with phase := some { length := 1000, left := left } }

theorem witness_StartTimeoutAndOnTimeEnd :
    (tower .mid .run).drive.st ≠ .starting
      ∧ (∀ left, (phased (tower .mid .run) .starting left).drive.phase = some { length := 1000, left := left })
      ∧ (let s := phased (tower .mid .run) .starting 0
         s.released = true ∧ s.drive.st = .starting ∧ s.drdyActive = false ∧ s.ctrl.node = .run ∧ s.handActive = false)
      ∧ (let s := phased (tower .mid .manual) .starting 0
         s.drdyActive = false ∧ s.ctrl.node = .manual ∧ s.ctrl.trip = none)
      ∧ (let s := driving ((tower .mid .run).withDrive { DriveBlock.reset with
           onTime := 210, period := some { length := 60000, left := 39000 } }) .running
         s.drive.jog = false ∧ s.drive.period = some { length := 60000, left := 39000 }
           ∧ 100 * s.drive.onTime ≤ 60000 - 39000 ∧ 60000 - 39001 < 100 * s.drive.onTime) :=
  ⟨by decide, fun _ => rfl, by decide, by decide, by decide⟩

/-- A RESTING tower with this demand, its period timer running. -/
def resting (p : Params) (d : Nat) : State :=
  let s := (towerWith p .mid .run).withDemand { DemandBlock.reset with d := d }
  s.withDrive { s.drive with st := .resting, period := some { length := 60000, left := 0 } }

theorem witness_RestingEndStartsPeriod :
    (resting towerEight 0).released = true ∧ (resting towerEight 0).drive.st = .resting
      ∧ (resting towerEight 0).drive.period.isSome = true ∧ (resting towerEight 0).demand.d = 0
      ∧ (∀ x, (resting towerEight 1).drive.period = some x ∨ (resting towerEight 1).drive.phase = some x → x.left = 0)
      ∧ (phased (resting towerEight 1) .resting 1).drive.phase = some { length := 1000, left := 1 }
      ∧ (resting towerEight 1).ctrl.node = .run ∧ 0 < (resting towerEight 1).demand.d
      ∧ (resting towerEight 1).params.driveMode = .duty := by
  refine ⟨by decide, by decide, by decide, by decide, ?_, by decide, by decide, by decide, by decide⟩
  rintro x (h | h)
  · cases h; rfl
  · cases h

theorem witness_StopTimeEndStartsWaitingDrive :
    (let s := phased (tower .mid .run) .stopping 0
     s.released = true ∧ s.drive.st = .stopping ∧ s.drive.phase = some { length := 1000, left := 0 } ∧ s.demand.d = 0
       ∧ s.ctrl.node ≠ .manual)
    ∧ (phased (tower .mid .run) .stopping 1).drive.phase = some { length := 1000, left := 1 }
    ∧ (let s := phased (resting towerEight 1) .stopping 0
       s.ctrl.node = .run ∧ 0 < s.demand.d ∧ s.params.driveMode = .duty)
    ∧ (let s := phased (resting towerRate 1) .stopping 0
       s.params.driveMode = .rate ∧ 0 < s.demand.d ∧ s.drdyActive = false
         ∧ (withPin s .drdy .high).drdyActive = true)
    ∧ (let s := withPin (phased (tower .mid .manual) .stopping 0) .jogR .high
       s.ctrl.node = .manual ∧ s.drive.lockout = false ∧ s.jogSelection = some .reverse ∧ s.drdyActive = false
         ∧ (withPin s .drdy .high).drdyActive = true) := by decide

/-- A RUN tower in RATE mode, its drive OFF, with a demand of 600. -/
def rateOff : State := (towerWith towerRate .mid .run).withDemand { DemandBlock.reset with d := 600 }

theorem witness_HandOverActsOnDrive :
    ((tower .mid .idle).ctrl.node ≠ .run
      ∧ (let s := driving (resting towerRate 600) .running
         s.ctrl.node = .run ∧ s.params.driveMode = .rate ∧ s.drive.st = .running)
      ∧ (let s := driving (resting towerEight 0) .starting
         s.params.driveMode = .duty ∧ s.drive.st = .starting ∧ s.demand.d = 0)
      ∧ (let s := driving (resting towerEight 1000) .off
         s.ctrl.node = .run ∧ s.drive.st = .off ∧ 0 < s.demand.d)
      ∧ (driving (tower .mid .run) .stopping).drive.st = .stopping
      ∧ (driving (tower .mid .tripped) .faulted).drive.st = .faulted)
    ∧ (rateOff.RestLaw ∧ rateOff.ctrl.node = .run ∧ rateOff.params.driveMode = .rate ∧ rateOff.drive.st = .off
      ∧ 0 < rateOff.demand.d
      ∧ (driving rateOff .starting).drive.st = .starting)
    -- a rest that is over, one that is not, and no demand
    ∧ (let s := (resting towerEight 1).withDrive { DriveBlock.reset with st := .resting }
       s.drive.period = none ∧ s.drive.phase = none ∧ 0 < s.demand.d ∧ (resting towerEight 0).drive.period ≠ none
         ∧ (resting towerEight 0).demand.d = 0)
    -- a change of direction, begun and under way
    ∧ (let s := driving (tower .mid .run) .running
       frameDirection (frameOf 0x06#8 1 0 0 0 [] []) ≠ s.drive.dir ∧ s.drive.jog = false ∧ s.drive.dirChange = false
         ∧ s.params.stopTime ≠ 0 ∧ (driving s .stopping).drive.st = .stopping
         ∧ frameDirection frame300 = s.drive.dir)
    -- a start by the whole hand-over
    ∧ (rateOff.drive.dirChange = false ∧ rateOff.drive.st = .off) := by
  refine ⟨by decide, ⟨?_, by decide⟩, by decide, by decide +kernel, by decide⟩
  unfold State.RestLaw; decide

theorem witness_LampStepsAndShows :
    (∀ left, ((tower .mid .run).withLamp
        { stepCount := 0, stepTimer := some { length := 500, left := left } }).lamp.stepTimer
          = some { length := 500, left := left })
      ∧ (tower .mid .run).released = true ∧ (tower .mid .run).ctrl.node = .run
      ∧ (tower .mid .run).inSector .lamp = false
      ∧ ((tower .mid .run).withTable { (tower .mid .run).table with
          lookup := some { index := 0, entry := { sector 0 100 with action := .lamp } } }).inSector .lamp = true
      ∧ (tower .mid .hold).ctrl.node = .hold ∧ (tower .mid .tripped).ctrl.node = .tripped
      ∧ (tower .mid (.standby true)).ctrl.node = .standby true
      ∧ (tower .mid (.standby false)).ctrl.node = .standby false ∧ (tower .mid .run).lamp.stepTimer = none := ⟨fun _ => rfl, by decide⟩

/-- A request to tower 1 reaches it. -/
theorem tower_reached (item : Word16) (p : Payload) : (tower .mid .run).ReachedBy (ask item p) :=
  ⟨rfl, rfl, by decide, by decide, rfl⟩

/-- A list of one entry within the ranges. -/
theorem sector_inRange : Sector.InRange (sector 0 35999) := by
  constructor <;> simp [sector]

/-- The tower with this staging bank and no swap pending. -/
def staged (params : Params) (entries : List Sector) : State :=
  (tower .mid .run).withStaging { params := params, entries := entries }

theorem staged_reached (params : Params) (entries : List Sector) (item : Word16) (p : Payload) :
    (staged params entries).ReachedBy (ask item p) :=
  ⟨rfl, rfl, show 1 ≤ (1#5).toNat by decide, show (1#5).toNat ≤ 30 by decide, rfl⟩

theorem witness_ReadsAnswer :
    (tower .mid .run).ReachedBy (ask 0 zeros) ∧ ¬inRange 1 34 (ask 0 zeros).item.toNat
      ∧ ¬inRange 1 34 (ask 35 zeros).item.toNat ∧ inRange 1 34 (ask 1 zeros).item.toNat
      ∧ inRange 1 34 (ask 34 zeros).item.toNat ∧ (ask 34 zeros).payload.b0 = 0#8
      ∧ (ask 34 { zeros with b0 := 1 }).payload.b0 = 1#8
      ∧ (ask 34 { zeros with b0 := 2 }).payload.b0 ≠ 0#8 ∧ (ask 34 { zeros with b0 := 2 }).payload.b0 ≠ 1#8
      ∧ (tower .mid .run).activeBank.entries[(ask 0 zeros).item.toNat]? = none
      ∧ (staged towerEight [sector 0 35999]).stagingBank.entries[(ask 0 zeros).item.toNat]? = some (sector 0 35999)
      ∧ Sector.InRange (sector 0 35999) :=
  ⟨tower_reached _ _, by unfold inRange; decide, by unfold inRange; decide, by unfold inRange; decide,
    by unfold inRange; decide, by decide, by decide, by decide, by decide, by decide, by decide, sector_inRange⟩

/-- RADIUS at the edges of its range, 10 and 9999. -/
theorem witness_WriteParamEditsStaging :
    (tower .mid .run).ReachedBy (ask 1 zeros) ∧ (tower .mid .run).table.pendingSwap = false
      ∧ ¬inRange 1 34 (ask 35 zeros).item.toNat ∧ inRange 1 34 (ask 1 zeros).item.toNat
      ∧ ¬ValueAdmitted 1 { zeros with b3 := 9 } ∧ ValueAdmitted 1 { zeros with b3 := 10 }
      ∧ ValueAdmitted 1 { zeros with b2 := 0x27, b3 := 0x0F } ∧ ¬ValueAdmitted 1 { zeros with b2 := 0x27, b3 := 0x10 } := by
  refine ⟨tower_reached _ _, by decide, ?_, ?_, ?_, ?_, ?_, ?_⟩ <;> simp only [ValueAdmitted, inRange] <;> decide

theorem witness_ValuesAreCarriedWhole :
    Params.InRange towerEight ∧ towerEight.radius ≠ 0 ∧ towerEight.vmax ≠ 0 ∧ inRange 1 34 1 ∧ inRange 1 34 34
      ∧ Sector.InRange (sector 0 35999) :=
  ⟨towerEight_inRange, by decide, by decide, by unfold inRange; decide, by unfold inRange; decide, sector_inRange⟩

/-- The payload that carries `sector 0 35999`: action LIMIT, start 0, end 35999, factor 600. -/
def entryPayload : Payload := { b0 := 0, b1 := 0, b2 := 0, b3 := 0, b4 := 0x8C, b5 := 0x9F, b6 := 0x02, b7 := 0x58 }

/-- Appending at the count, overwriting below it, refused past it; a payload with equal start and end carries no entry in
range. -/
theorem witness_StagingListIsEdited :
    (staged towerEight []).ReachedBy (ask 0 entryPayload) ∧ (staged towerEight []).table.pendingSwap = false
      ∧ CarriesEntry entryPayload (sector 0 35999) ∧ Sector.InRange (sector 0 35999)
      ∧ (ask 0 entryPayload).item.toNat = (staged towerEight []).stagingBank.entries.length
      ∧ (ask 0 entryPayload).item.toNat < (staged towerEight [sector 0 100]).stagingBank.entries.length
      ∧ (staged towerEight []).stagingBank.entries.length < (ask 1 entryPayload).item.toNat
      ∧ (∀ e, CarriesEntry (ask 0 zeros).payload e → ¬Sector.InRange e)
      ∧ (ask 1 zeros).item.toNat ≤ (staged towerEight [sector 0 100]).stagingBank.entries.length := by
  refine ⟨staged_reached _ _ _ _, by decide, ?_, sector_inRange, by decide, by decide, by decide, ?_, by decide⟩
  · exact ⟨by decide, by decide, by decide, by decide⟩
  · rintro e ⟨-, h1, h2, -⟩ h
    exact h.differ (h1.symm.trans h2)

theorem witness_CommitJudgesStagingBank :
    (staged towerEight []).ReachedBy (ask 0 zeros) ∧ (staged towerEight []).table.pendingSwap = false
      ∧ CommitPasses (staged towerEight []).stagingBank
      ∧ ¬CommitPasses (staged { towerEight with warnLimit := 900 } []).stagingBank := by
  refine ⟨staged_reached _ _ _ _, by decide, ?_, ?_⟩
  · exact ⟨by decide, by decide, by decide, by decide, by decide, by decide, fun i a b h => by simp [staged,
      State.stagingBank, State.withStaging, TableBlock.withStaging, tower, TableBlock.reset, State.withTable] at h,
      fun a z h => by simp [staged, State.stagingBank, State.withStaging, TableBlock.withStaging, tower,
        TableBlock.reset, State.withTable] at h⟩
  · rintro ⟨-, -, -, h, -⟩; exact absurd h (by decide)

theorem witness_SetEventsReplacesSets : (tower .mid .run).ReachedBy (ask 0 zeros) := tower_reached _ _

theorem witness_ReadLiveReturnsValues :
    (tower .mid .run).ReachedBy (ask 1 zeros) ∧ (ask 0 zeros).item.toNat = 0 ∧ 14 ≤ (ask 14 zeros).item.toNat
      ∧ (ask 1 zeros).item.toNat = 1 ∧ (ask 13 zeros).item.toNat = 13
      ∧ (tower .mid .run).table.lookup = none ∧ (tower .mid .run).ctrl.trip = none
      ∧ ((tower .mid .run).withTable { (tower .mid .run).table with
          lookup := some { index := 31, entry := sector 0 100 } }).table.lookup
          = some { index := 31, entry := sector 0 100 }
      ∧ (tripped (tower .mid .tripped) .stall 0).ctrl.trip = some { cause := .stall, seq := 7, extra := 0 }
      ∧ (ask 9 zeros).item.toNat = 9
      ∧ (∀ st ∈ [DriveState.off, .faulted, .starting, .stopping, .resting],
          (driving (tower .mid .run) st).drive.st = st ∧ (driving (tower .mid .run) st).ReachedBy (ask 9 zeros))
      ∧ (let s := driving ((tower .mid .run).withDrive { DriveBlock.reset with
           onTime := 210, period := some { length := 60000, left := 39001 } }) .running
         s.drive.st = .running ∧ s.params.driveMode = .duty ∧ s.drive.jog = false
           ∧ s.drive.period = some { length := 60000, left := 39001 })
      ∧ (towerWith towerRate .mid .run).params.driveMode = .rate :=
  ⟨tower_reached _ _, by decide, by decide, by decide, by decide, by decide, by decide, by decide, by decide, by decide,
    fun st _ => ⟨rfl, tower_reached _ _⟩, by decide, by decide⟩

theorem witness_LineResetIsOrdered :
    (tower .mid .run).ReachedBy (ask 0 zeros) ∧ (ask 0 zeros).payload.b0 = 0#8
      ∧ (ask 0 { zeros with b0 := 1 }).payload.b0 = 1#8 ∧ (ask 0 { zeros with b0 := 2 }).payload.b0 ≠ 0#8
      ∧ (ask 0 { zeros with b0 := 2 }).payload.b0 ≠ 1#8 :=
  ⟨tower_reached _ _, by decide, by decide, by decide, by decide⟩

theorem witness_UnknownOpChangesNothing :
    (tower .mid .run).ReachedBy (ask 0 zeros) ∧ ¬inRange 1 10 (0x00#8 : Byte).toNat ∧ ¬inRange 1 10 (0x0B#8 : Byte).toNat
      ∧ towerTwo.released = true ∧ towerTwo.line.waitingReset = none ∧ towerTwo.table.pendingSwap = false
      ∧ (ask 0 zeros).target.toNat ≠ towerTwo.power.index.toNat ∧ (ask 0 zeros).target.toNat ≠ 31
      ∧ (0x07#8, Instr.commit (ask 0 zeros)) ∈ serviceCommands (ask 0 zeros)
      ∧ (0x01#8, Instr.readParam { ask 0 zeros with target := 31 }) ∈ serviceCommands { ask 0 zeros with target := 31 }
      ∧ (0x01#8 : Byte) ≠ 0x07#8 ∧ (0x01#8 : Byte) ≠ 0x0A#8 :=
  ⟨tower_reached _ _, by unfold inRange; decide, by unfold inRange; decide, by decide, by decide, by decide, by decide,
    by decide, by simp [serviceCommands], by simp [serviceCommands], by decide, by decide⟩

theorem witness_BroadcastActsUnanswered :
    (tower .mid .run).ReachedBy (ask 0 zeros) ∧ ask 0 zeros = { ask 0 zeros with target := (ask 0 zeros).target }
      ∧ (tower .mid .run).table.pendingSwap = false := ⟨tower_reached _ _, rfl, by decide⟩

/-- A tower with a commit pending and a READ_LIVE waiting. -/
def committed : State :=
  let s := staged towerEight []
  ((s.withTable { s.table with pendingSwap := true }).withSlot { s.slot with pendingCommit := true }).withPending
    [.readLive (ask 12 zeros)]

theorem witness_PendingSwapFreezesStaging :
    committed.PendingLaw ∧ step committed = .next (after (.readLive (ask 12 zeros)) (committed.withPending []))
      ∧ committed.table.pendingSwap = true
      ∧ (after (.readLive (ask 12 zeros)) (committed.withPending [])).table.pendingSwap = true
      ∧ (after (.readLive (ask 12 zeros)) (committed.withPending [])).table.active = committed.table.active :=
  ⟨rfl, rfl, by decide, by decide, by decide⟩

/-- A RUN tower at the top of its counts, with a frame taken and its processing waiting. -/
def busy : State :=
  let s := lined .mid { LineBlock.reset with txOuter := .taken frame300, missCount := 2 }
  ((s.withDemand { DemandBlock.reset with d := 1000, c := 1000 }).withJoint
    { JointBlock.reset with holdCount := 4 }).withPending [.outboundProcessing]

theorem busy_steps : step busy = .next (after .outboundProcessing (busy.withPending [])) := rfl

theorem witness_DemandLawIsKept : busy.DemandLaw ∧ step busy = .next (after .outboundProcessing (busy.withPending [])) :=
  ⟨by unfold State.DemandLaw; decide, busy_steps⟩

theorem witness_TripRecordLawIsKept :
    (tripped (busy.withNode .tripped) .stall 255).TripLaw ∧ busy.TripLaw
      ∧ step busy = .next (after .outboundProcessing (busy.withPending [])) :=
  ⟨by unfold State.TripLaw; decide, by unfold State.TripLaw; decide, busy_steps⟩

theorem witness_DriveOutputLawIsKept :
    busy.DriveLaw ∧ busy.RestLaw ∧ busy.ReadyLaw ∧ (driving (tower .mid .run) .starting).ReadyLaw ∧ step busy = .next (after .outboundProcessing (busy.withPending [])) :=
  ⟨by unfold State.DriveLaw; decide, by unfold State.RestLaw; decide, by unfold State.ReadyLaw; decide,
    by unfold State.ReadyLaw; decide, busy_steps⟩

theorem witness_CountsStayWithinLimits :
    busy.CeilingLaw ∧ busy.HoldCountLaw ∧ busy.MissLaw ∧ (tower .endNode .run).EndJointLaw
      ∧ step busy = .next (after .outboundProcessing (busy.withPending [])) :=
  ⟨by unfold State.CeilingLaw; decide, by unfold State.HoldCountLaw; decide, by unfold State.MissLaw; decide,
    by unfold State.EndJointLaw; decide, busy_steps⟩

theorem witness_BanksStayLawful :
    committed.TableLaw ∧ step committed = .next (after (.readLive (ask 12 zeros)) (committed.withPending [])) :=
  ⟨⟨rfl, by unfold State.BankLaw; decide⟩, rfl⟩

theorem witness_ProfilesStayInRange :
    (staged towerEight [sector 0 35999]).RangeLaw
      ∧ step (staged towerEight [sector 0 35999]) = .next (staged towerEight [sector 0 35999]) := by
  refine ⟨⟨⟨towerEight_inRange, ?_, by decide⟩, ⟨towerEight_inRange, ?_, by decide⟩⟩, rfl⟩
  · intro e h; cases h
  · intro e h
    cases h with
    | head => exact sector_inRange
    | tail _ h => cases h

end Sys2Proof.Tests
end

section
/-! SUPPORT. What an evaluation does to a serving node, in the words of the table of R45: where the node goes, how its
drive stops, which events an evaluation can raise, and what it never touches. -/

namespace Sys2Proof.Machine

/-! ## The table of R45 -/

theorem NodeState.serving_iff (n : NodeState) : NodeState.serving n = true ↔ n = .idle ∨ n = .run ∨ n = .hold := by
  cases n <;> simp [NodeState.serving]

theorem State.handActive_congr {s t : State} (ht : t.table = s.table) (hi : t.inputs = s.inputs) :
    t.handActive = s.handActive := by
  simp only [State.handActive, State.inputActive, State.params_congr ht, hi]

theorem State.drdyActive_congr {s t : State} (ht : t.table = s.table) (hi : t.inputs = s.inputs) :
    t.drdyActive = s.drdyActive := by
  simp only [State.drdyActive, State.inputActive, State.params_congr ht, hi]

theorem State.RunConditions.congr {s t : State} (h : s.RunConditions) (ht : t.table = s.table)
    (hi : t.inputs = s.inputs) (hp : t.slot.runPermit = s.slot.runPermit)
    (hm : t.ctrl.machineRun = s.ctrl.machineRun) : t.RunConditions := by
  unfold State.RunConditions at h ⊢
  rw [State.handActive_congr ht hi, State.params_congr ht, hp, hm]
  exact h

/-- The model's new state of a serving node is the one the table of R45 gives. -/
theorem State.servingState_eq_tableState (s : State) : s.servingState = s.tableState := by
  have idle : (!s.slot.runPermit || !s.ctrl.machineRun || !s.profileValid) = true ↔
      s.slot.runPermit = false ∨ s.ctrl.machineRun = false ∨ s.params.radius = 0 ∨ s.params.vmax = 0 := by
    simp [State.profileValid, Params.complete, or_assoc]
  have hold : HoldCauses.any s.ctrl.holds = true ↔ s.ctrl.holds.linkLost = true ∨ s.ctrl.holds.returnLost = true
      ∨ s.ctrl.holds.chain = true ∨ s.ctrl.holds.noSlot = true := by
    simp [HoldCauses.any, or_assoc]
  simp only [State.servingState, State.tableState, idle, hold]

/-- With the run conditions standing, the hold causes alone decide between HOLD and RUN (R45). -/
theorem State.tableState_of_runConditions {s : State} (h : s.RunConditions) :
    s.tableState = if HoldCauses.any s.ctrl.holds then .hold else .run := by
  obtain ⟨hand, permit, mode, radius, vmax⟩ := h
  simp [State.tableState, HoldCauses.any, hand, permit, mode, radius, vmax, or_assoc]

/-- A node with a hold cause is not in RUN by the table (R45). -/
theorem State.tableState_ne_run {s : State} (h : HoldCauses.any s.ctrl.holds = true) : s.tableState ≠ .run := by
  rw [← State.servingState_eq_tableState]
  unfold State.servingState
  (repeat' split) <;> simp_all

/-- Only HAND takes a serving node to LOCAL (R45). -/
theorem State.tableState_ne_manual {s : State} (h : s.handActive = false) : s.tableState ≠ .manual := by
  unfold State.tableState
  (repeat' split) <;> simp_all

/-- An evaluation of a serving node moves it where the table says, and trips nothing (R44, R45). -/
theorem State.evaluate_of_serving {s : State} (h : NodeState.serving s.ctrl.node = true) :
    s.evaluate = s.moveTo s.tableState := by
  have he : s.evaluated = s.tableState := by
    rw [← State.servingState_eq_tableState]
    obtain h | h | h := (NodeState.serving_iff _).1 h <;> simp only [State.evaluated, h]
  simp [State.evaluate, h, he]

/-- A TRIPPED node with HAND inactive stays as it is (R44). -/
theorem State.evaluate_of_tripped {s : State} (h : s.ctrl.node = .tripped) (hand : s.handActive = false) :
    s.evaluate = s := by
  have he : s.evaluated = .tripped := by simp [State.evaluated, h, hand]
  simp [State.evaluate, he, State.moveTo, h, NodeState.serving]

/-! ## The stop of a drive (R132, R133) -/

/-- Outside RUN and LOCAL the stop of a drive is that of R132 and R133, with no start waiting at OFF. -/
theorem State.driveStop_stoppedTo (s : State) (h1 : s.ctrl.node ≠ .run) (h2 : s.ctrl.node ≠ .manual) :
    DriveBlock.StoppedTo s.drive s.driveStop.drive s.params.stopTime := by
  have halted (hs : s.drive.st = .starting ∨ s.drive.st = .running) : s.driveStop = s.enterStopping := by
    obtain hs | hs := hs <;> simp [State.driveStop, hs]
  refine ⟨fun hs ht => ?_, fun hs ht => ?_, fun hs => ?_, fun hs => ?_⟩
  · simp [halted hs, State.enterStopping, ht, Timer.tenths, Timer.start]
  · rw [halted hs, State.enterStopping, if_pos ht,
      State.arriveOff_of_resting_node _ (by simpa using h1) (by simpa using h2)]
    simp [DriveBlock.stoppedAt]
  · simp [State.driveStop, hs, DriveBlock.stoppedAt]
  · obtain hs | hs | hs := hs <;> simp [State.driveStop, hs]

/-- On leaving RUN for a state that is not LOCAL, the drive is stopped (R48, R132). -/
theorem State.moveTo_stops_drive {s : State} {n : NodeState} (hrun : s.ctrl.node = .run) (h1 : n ≠ .run)
    (h2 : n ≠ .manual) : DriveBlock.StoppedTo s.drive (s.moveTo n).drive s.params.stopTime := by
  have h := State.driveStop_stoppedTo (s.withNode n).dropDemand (by simpa [State.withNode] using h1)
    (by simpa [State.withNode] using h2)
  simpa [State.moveTo, hrun, h1, h2] using h

/-! ## A change of the hold-cause set (R44, R50) -/

/-- `s` with its hold-cause set replaced and nothing evaluated. -/
def State.withHolds (s : State) (h : HoldCauses) : State := s.withCtrl { s.ctrl with holds := h }

@[simp] theorem State.withHolds_node (s : State) (h : HoldCauses) : (s.withHolds h).ctrl.node = s.ctrl.node := rfl

@[simp] theorem State.withHolds_holds (s : State) (h : HoldCauses) : (s.withHolds h).ctrl.holds = h := rfl

theorem State.setHolds_same {s : State} {h : HoldCauses} (same : h = s.ctrl.holds) : s.setHolds h = s := by
  simp [State.setHolds, same]

/-- A change of the set brings an evaluation (R44). -/
theorem State.setHolds_of_ne {s : State} {h : HoldCauses} (hne : h ≠ s.ctrl.holds) :
    s.setHolds h = (s.withHolds h).evaluate := by
  simp [State.setHolds, hne, State.withHolds]

/-- A change of the set moves a serving node where the table says (R44, R45, R50). -/
theorem State.setHolds_of_serving {s : State} {h : HoldCauses} (hs : NodeState.serving s.ctrl.node = true)
    (hne : h ≠ s.ctrl.holds) : s.setHolds h = (s.withHolds h).moveTo (s.withHolds h).tableState := by
  rw [State.setHolds_of_ne hne, State.evaluate_of_serving (by simpa using hs)]

theorem State.setHolds_node_of_serving {s : State} {h : HoldCauses} (hs : NodeState.serving s.ctrl.node = true)
    (hne : h ≠ s.ctrl.holds) : (s.setHolds h).ctrl.node = (s.withHolds h).tableState := by
  rw [State.setHolds_of_serving hs hne, State.moveTo_ctrl]

/-- A change of the set that the table does not answer with another state touches the set alone. -/
theorem State.setHolds_of_kept_node {s : State} {h : HoldCauses} (hs : NodeState.serving s.ctrl.node = true)
    (hk : (s.withHolds h).tableState = s.ctrl.node) : s.setHolds h = s.withHolds h := by
  by_cases hne : h = s.ctrl.holds
  · subst hne
    exact State.setHolds_same rfl
  · rw [State.setHolds_of_serving hs hne, hk]
    exact State.moveTo_self (s.withHolds h)

/-- The machine mode record is no concern of a change of the set. -/
@[simp] theorem State.setHolds_machineRun (s : State) (h : HoldCauses) :
    (s.setHolds h).ctrl.machineRun = s.ctrl.machineRun := by
  unfold State.setHolds
  split
  · rfl
  · exact (State.evaluate_ctrl _).2.2

theorem State.RunConditions.setHolds {s : State} (h : s.RunConditions) (holds : HoldCauses) :
    (s.setHolds holds).RunConditions :=
  h.congr (by simp) (by simp) (by simp) (by simp)

theorem State.RunConditions.withHolds {s : State} (h : s.RunConditions) (holds : HoldCauses) :
    (s.withHolds holds).RunConditions := h

/-- All that the entry of a hold cause does to a RUN node (R48, R50, R132): out of RUN with d and c 0, to HOLD when
the run conditions stand, the drive stopped unless HAND takes the node to LOCAL. -/
theorem State.setHolds_leaves_run {s : State} {h : HoldCauses} (hrun : s.ctrl.node = .run)
    (hne : h ≠ s.ctrl.holds) (hany : HoldCauses.any h = true) :
    (s.setHolds h).ctrl.node ≠ .run ∧ (s.setHolds h).demand.d = 0 ∧ (s.setHolds h).demand.c = 0
      ∧ (s.RunConditions → (s.setHolds h).ctrl.node = .hold)
      ∧ (s.handActive = false → DriveBlock.StoppedTo s.drive (s.setHolds h).drive s.params.stopTime) := by
  have hs : NodeState.serving s.ctrl.node = true := by rw [hrun]; rfl
  have hn : (s.withHolds h).tableState ≠ .run := State.tableState_ne_run hany
  have hr : (s.withHolds h).ctrl.node = .run := hrun
  rw [State.setHolds_of_serving hs hne]
  refine ⟨by simpa using hn, by rw [State.moveTo_d, if_pos ⟨hr, hn⟩],
    by rw [State.moveTo_c, if_pos ⟨hr, hn⟩], fun hc => ?_, fun hh => ?_⟩
  · simp [State.tableState_of_runConditions (hc.withHolds h), hany]
  · exact State.moveTo_stops_drive (s := s.withHolds h) hr hn (State.tableState_ne_manual hh)

/-- All that a change of the set does to a RUN node whose run conditions stand: with no cause in it the node stays,
and else it is taken to HOLD (R45, R50). -/
theorem State.setHolds_of_run {s : State} {h : HoldCauses} (hrun : s.ctrl.node = .run) (hc : s.RunConditions) :
    ((s.setHolds h).ctrl.node = .run ∧ (s.setHolds h).demand = s.demand ∧ (s.setHolds h).drive = s.drive)
      ∨ ((s.setHolds h).ctrl.node = .hold ∧ (s.setHolds h).demand.d = 0 ∧ (s.setHolds h).demand.c = 0
        ∧ DriveBlock.StoppedTo s.drive (s.setHolds h).drive s.params.stopTime) := by
  by_cases hne : h = s.ctrl.holds
  · rw [State.setHolds_same hne]
    exact .inl ⟨hrun, rfl, rfl⟩
  · cases hany : HoldCauses.any h
    · rw [State.setHolds_of_kept_node (by simp [hrun, NodeState.serving])
        (by simp [State.tableState_of_runConditions (hc.withHolds h), hany, hrun])]
      exact .inl ⟨hrun, rfl, rfl⟩
    · obtain ⟨-, d, c, hold, stop⟩ := State.setHolds_leaves_run hrun hne hany
      exact .inr ⟨hold hc, d, c, stop hc.1⟩

/-- Where a change of the set takes a HOLD node whose run conditions stand (R45, R50). -/
theorem State.setHolds_node_of_hold {s : State} {h : HoldCauses} (hh : s.ctrl.node = .hold) (hc : s.RunConditions) :
    (s.setHolds h).ctrl.node =
      if h = s.ctrl.holds then .hold else if HoldCauses.any h then .hold else .run := by
  split
  · next same => rw [State.setHolds_same same, hh]
  · next ne =>
    rw [State.setHolds_node_of_serving (by simp [hh, NodeState.serving]) ne,
      State.tableState_of_runConditions (hc.withHolds h), State.withHolds_holds]

/-! ## The events an evaluation can raise -/

theorem State.hasEvent_raise_of_ne (s : State) {e e' : Event} (h : e ≠ e') :
    hasEvent (s.raise e').events.flags e = hasEvent s.events.flags e := by
  simp [State.hasEvent_raise, h.symm]

/-- A raised event stands (R181). -/
theorem State.hasEvent_raise_self (s : State) (e : Event) : hasEvent (s.raise e).events.flags e = true := by
  simp [State.hasEvent_raise]

/-- The event is none of those that an evaluation can raise: CONDITION with SHORT at a start (R124), LOCAL at the
entry into LOCAL (R61), SAFETY at a SAFE request (R55). -/
def Event.outsideEvaluation (e : Event) : Prop := e ≠ .condition ∧ e ≠ .handEntry ∧ e ≠ .safety

theorem State.startIfDue_hasEvent (s : State) {e : Event} (h : e.outsideEvaluation) :
    hasEvent s.startIfDue.events.flags e = hasEvent s.events.flags e := by
  have duty : hasEvent s.startDutyPeriod.events.flags e = hasEvent s.events.flags e := by
    have short (b : Bool) : hasEvent (s.raiseConditionIf b .short).events.flags e = hasEvent s.events.flags e := by
      cases b
      · rfl
      · exact State.hasEvent_raise_of_ne _ h.1
    unfold State.startDutyPeriod
    simp only
    split <;> simpa using short _
  unfold State.startIfDue
  split
  · split
    · exact duty
    · simp
  · rfl

theorem State.driveStop_hasEvent (s : State) {e : Event} (h : e.outsideEvaluation) :
    hasEvent s.driveStop.events.flags e = hasEvent s.events.flags e := by
  have off (a : State) : hasEvent a.arriveOff.events.flags e = hasEvent a.events.flags e := by
    simpa [State.arriveOff] using State.startIfDue_hasEvent a.driveOff h
  have stop : hasEvent s.enterStopping.events.flags e = hasEvent s.events.flags e := by
    unfold State.enterStopping
    split
    · simpa using off s.haltMotor
    · simp
  unfold State.driveStop
  split <;> first | exact stop | simp

theorem State.moveTo_hasEvent (s : State) (n : NodeState) {e : Event} (h : e.outsideEvaluation) :
    hasEvent (s.moveTo n).events.flags e = hasEvent s.events.flags e := by
  have enter (a : State) : hasEvent a.noteLocalEntry.events.flags e = hasEvent a.events.flags e :=
    State.hasEvent_raise_of_ne a h.2.1
  unfold State.moveTo
  split
  · rfl
  · (repeat' split) <;> simp [State.driveStop_hasEvent _ h, enter]

theorem State.tripRequest_hasEvent (s : State) (cause : TripCause) {e : Event} (h : e.outsideEvaluation) :
    hasEvent (s.tripRequest cause).events.flags e = hasEvent s.events.flags e := by
  unfold State.tripRequest
  (repeat' split) <;> simp [State.moveTo_hasEvent _ _ h]

theorem State.evaluate_hasEvent (s : State) {e : Event} (h : e.outsideEvaluation) :
    hasEvent s.evaluate.events.flags e = hasEvent s.events.flags e := by
  unfold State.evaluate
  simp only
  split
  · rw [State.safeRequest, State.tripRequest_hasEvent _ _ h, State.hasEvent_raise_of_ne _ h.2.2,
      State.moveTo_hasEvent _ _ h]
  · exact State.moveTo_hasEvent _ _ h

theorem State.setHolds_hasEvent (s : State) (holds : HoldCauses) {e : Event} (h : e.outsideEvaluation) :
    hasEvent (s.setHolds holds).events.flags e = hasEvent s.events.flags e := by
  unfold State.setHolds
  split
  · rfl
  · exact State.evaluate_hasEvent (s.withHolds holds) h

end Sys2Proof.Machine
end

section
/-! SUPPORT. The span line's commands (R10 to R13, R17 to R19, R22) and the obligations about them. -/

namespace Sys2Proof.Machine

/-! ## The tests of R10 -/

theorem storedBytes_eq {burst : List RxByte} (h : burst.length ≤ 628) : storedBytes burst = burst.map RxByte.data := by
  rw [storedBytes, List.take_of_length_le h]

theorem frameLength_eq (n : Nat) (service : Bool) : frameLength n service = 12 + 20 * n + 14 * service.toNat + 2 := by
  cases service <;> simp [frameLength]

theorem framingError_iff (burst : List RxByte) : framingError burst = true ↔ ∃ b ∈ burst, b.stopOk = false := by
  simp [framingError]

theorem passFits_iff (link : Link) (f : Frame) :
    passFits link f = true ↔
      ¬(link = .outer ∧ frameInbound f = false) ∧ ¬(link = .inner ∧ frameInbound f = true) := by
  cases link <;> simp [passFits]

/-- The model's acceptance is the passing of every test of R10. -/
theorem acceptable_iff (link : Link) (burst : List RxByte) :
    acceptable link burst = true ↔ ¬BurstFails link burst := by
  by_cases hl : burst.length ≤ 628
  · have stop := framingError_iff burst
    have pass := passFits_iff link (burst.map RxByte.data)
    have check : checkHolds (burst.map RxByte.data) = true ↔
        crc16 ((burst.map RxByte.data).take (burst.length - 2)) =
          word16At (burst.map RxByte.data) (burst.length - 2) := by
      simp [checkHolds]
    have kind : cycleKind = 0x3A#8 := rfl
    simp only [acceptable, storedBytes_eq hl, Bool.and_eq_true, decide_eq_true_eq, pass, check, frameLength_eq, kind,
      Bool.not_eq_true', ← Bool.not_eq_true (framingError burst), stop, BurstFails, not_or]
    grind
  · have long : BurstFails link burst := .inr (.inr (.inl (by omega)))
    simp [long, acceptable, hl]

theorem not_acceptable_iff (link : Link) (burst : List RxByte) :
    acceptable link burst = false ↔ BurstFails link burst := by
  rw [← Bool.not_eq_true, acceptable_iff, not_not]

/-- The bytes of a burst that passes are its stored bytes. -/
theorem storedBytes_of_passing {link : Link} {burst : List RxByte} (h : ¬BurstFails link burst) :
    storedBytes burst = burst.map RxByte.data :=
  storedBytes_eq (by by_contra hl; exact h (.inr (.inr (.inl (by omega)))))

/-! ## The node's role and its links (R11, R12) -/

theorem State.isEnd_iff (s : State) : s.isEnd = true ↔ s.power.role = .endNode := by simp [State.isEnd]

theorem State.isEnd_of_mid {s : State} (h : s.power.role = .mid) : s.isEnd = false := by simp [State.isEnd, h]

theorem State.isEnd_of_endNode {s : State} (h : s.power.role = .endNode) : s.isEnd = true := by simp [State.isEnd, h]

/-- A valid outbound frame leaves by the transmit buffer that the processing reads (R12). -/
theorem State.tx_forwardLink_inner (s : State) : LineBlock.tx s.line (s.forwardLink .inner) = s.outboundTx := by
  unfold State.forwardLink State.leavesInner State.outboundTx
  cases s.isEnd <;> rfl

theorem State.forwardLink_inner_of_mid {s : State} (h : s.power.role = .mid) : s.forwardLink .inner = .outer := by
  simp [State.forwardLink, State.leavesInner, State.isEnd_of_mid h]

theorem State.forwardLink_inner_of_endNode {s : State} (h : s.power.role = .endNode) :
    s.forwardLink .inner = .inner := by
  simp [State.forwardLink, State.leavesInner, State.isEnd_of_endNode h]

theorem State.stagesRun_of {s : State} (hr : s.released = true) (hw : s.line.waitingReset = none) :
    s.stagesRun = true := by simp [State.stagesRun, hr, hw]

/-! ## Arrival (R10, R12, R13) -/

theorem exec_frameArrival {link : Link} {burst : List RxByte} {s : State} (hr : s.released = true)
    (hw : s.line.waitingReset = none) : exec (.frameArrival link burst) s = .next (s.arriveFrame link burst) := by
  rw [show exec (.frameArrival link burst) s = execFrameArrival link burst s from rfl, execFrameArrival,
    if_pos (State.stagesRun_of hr hw)]

/-- While a line reset waits, an arriving frame is dropped (R22). -/
theorem exec_frameArrival_of_reset {link : Link} {burst : List RxByte} {s : State} {k : LineResetKind}
    (hw : s.line.waitingReset = some k) : exec (.frameArrival link burst) s = .next s := by
  rw [show exec (.frameArrival link burst) s = execFrameArrival link burst s from rfl, execFrameArrival,
    if_neg (by simp [State.stagesRun, hw])]

/-- A burst that fails a test is discarded with LINE_ERROR, and every burst on END's outer link (R10, R11). -/
theorem State.arriveFrame_of_failing {link : Link} {burst : List RxByte} {s : State}
    (h : BurstFails link burst ∨ (s.power.role = .endNode ∧ link = .outer)) :
    s.arriveFrame link burst = s.raise .lineError := by
  unfold State.arriveFrame
  rw [if_pos (by rw [State.isEnd_iff, not_acceptable_iff]; exact h.symm)]

/-- A passing burst on the inner link is an outbound frame (R10, R17). -/
theorem State.arriveFrame_inner {burst : List RxByte} {s : State} (h : ¬BurstFails .inner burst) :
    s.arriveFrame .inner burst = s.outboundArrival.placeFrame .inner (burst.map RxByte.data) := by
  rw [State.arriveFrame, if_neg (by rw [not_acceptable_iff]; simpa using h), storedBytes_of_passing h]

/-- A passing burst on the outer link of a MID node is an inbound frame (R10, R11). -/
theorem State.arriveFrame_outer {burst : List RxByte} {s : State} (hm : s.power.role = .mid)
    (h : ¬BurstFails .outer burst) : s.arriveFrame .outer burst = s.placeFrame .outer (burst.map RxByte.data) := by
  rw [State.arriveFrame, if_neg (by rw [not_acceptable_iff, State.isEnd_of_mid hm]; simpa using h),
    storedBytes_of_passing h]

/-- A frame is taken when its buffer is empty and none waits (R12). -/
theorem State.placeFrame_taken {link : Link} {f : Frame} {s : State} (hw : LineBlock.waiting s.line link = none)
    (ht : LineBlock.tx s.line (s.forwardLink link) = .empty) :
    s.placeFrame link f = s.withLine (LineBlock.withTx s.line (s.forwardLink link) (.taken f)) := by
  simp [State.placeFrame, hw, ht]

/-- A frame waits for a busy buffer (R12). -/
theorem State.placeFrame_waits {link : Link} {f : Frame} {s : State} (hw : LineBlock.waiting s.line link = none)
    (ht : LineBlock.tx s.line (s.forwardLink link) ≠ .empty) :
    s.placeFrame link f = s.withLine (LineBlock.withWaiting s.line link (some f)) := by
  simp [State.placeFrame, hw, ht]

/-- A frame displaces the one that waits, with LINE_ERROR (R13). -/
theorem State.placeFrame_displaces {link : Link} {f g : Frame} {s : State}
    (hw : LineBlock.waiting s.line link = some g) :
    s.placeFrame link f = (s.withLine (LineBlock.withWaiting s.line link (some f))).raise .lineError := by
  simp [State.placeFrame, hw]

theorem State.placeFrame_onlyRaises (s : State) (link : Link) (f : Frame) :
    State.OnlyRaises s (s.placeFrame link f) := by
  unfold State.placeFrame
  split
  · exact State.raise_onlyRaises (s.withLine _) .lineError
  · split <;> exact .of_events rfl

/-! ## The arrival of a valid outbound frame (R17, R18, R50) -/

theorem State.outboundArrival_line (s : State) :
    s.outboundArrival.line =
      { s.line with frameTimer := some (Timer.start (s.params.cyclePeriod * s.params.linkMissLimit)) } := by
  simp [State.outboundArrival, State.restartFrameTimer, State.frameTimeoutLength]

theorem State.outboundArrival_holds (s : State) :
    s.outboundArrival.ctrl.holds = { s.ctrl.holds with linkLost := false } := by
  simp [State.outboundArrival]

theorem State.outboundArrival_onlyRaises (s : State) : State.OnlyRaises s s.outboundArrival :=
  (State.setHolds_onlyRaises s { s.ctrl.holds with linkLost := false }).andThen (by simp [State.outboundArrival])

/-- With LINK_LOST absent the arrival touches the line alone. -/
theorem State.outboundArrival_of_present_link {s : State} (h : s.ctrl.holds.linkLost = false) :
    s.outboundArrival.ctrl = s.ctrl ∧ s.outboundArrival.demand = s.demand ∧ s.outboundArrival.drive = s.drive := by
  have same : ({ s.ctrl.holds with linkLost := false } : HoldCauses) = s.ctrl.holds := by rw [← h]
  simp [State.outboundArrival, State.setHolds_same same]

/-- As LINK_LOST leaves, a serving node takes the state of the table (R45, R50). -/
theorem State.outboundArrival_node {s : State} (h : s.ctrl.holds.linkLost = true)
    (hs : s.ctrl.node = .idle ∨ s.ctrl.node = .run ∨ s.ctrl.node = .hold) :
    s.outboundArrival.ctrl.node =
      (s.withCtrl { s.ctrl with holds := { s.ctrl.holds with linkLost := false } }).tableState := by
  have hne : { s.ctrl.holds with linkLost := false } ≠ s.ctrl.holds :=
    ne_of_apply_ne HoldCauses.linkLost (by simp [h])
  simpa [State.outboundArrival, State.withHolds] using
    State.setHolds_node_of_serving ((NodeState.serving_iff _).2 hs) hne

/-- The transmit buffer of the processing is read the same after the arrival. -/
theorem State.outboundArrival_outboundTx (s : State) : s.outboundArrival.outboundTx = s.outboundTx := by
  simp [State.outboundTx, State.outboundArrival_line]

/-- What FRAME_ARRIVAL of a valid outbound frame changes at most, wherever the frame goes (R12, R17). -/
theorem State.outboundArrival_placeFrame_frame (s : State) (f : Frame) :
    State.SameOutside [.line, .ctrl, .demand, .drive, .events] s (s.outboundArrival.placeFrame .inner f)
      ∧ State.OnlyRaises s (s.outboundArrival.placeFrame .inner f) :=
  ⟨s.outboundArrival_frame.trans ((State.placeFrame_frame _ _ _).mono (by decide)),
    s.outboundArrival_onlyRaises.trans (State.placeFrame_onlyRaises _ _ _)⟩

/-- The line after a valid outbound frame is taken at its arrival (R12, R17). -/
theorem State.outboundArrival_placeFrame_line {s : State} {f : Frame} (hrx : s.line.rxInner = none)
    (htx : s.outboundTx = .empty) : (s.outboundArrival.placeFrame .inner f).line = LineBlock.withTx
      { s.line with frameTimer := some (Timer.start (s.params.cyclePeriod * s.params.linkMissLimit)) }
      (s.forwardLink .inner) (.taken f) := by
  have link : s.outboundArrival.forwardLink .inner = s.forwardLink .inner := by
    have role : s.outboundArrival.leavesInner .inner = s.leavesInner .inner := State.outboundArrival_isEnd s
    rw [State.forwardLink, State.forwardLink, role]
  rw [State.placeFrame_taken (by simpa [LineBlock.waiting, State.outboundArrival_line] using hrx)
    (by rw [State.tx_forwardLink_inner, State.outboundArrival_outboundTx, htx]), State.withLine_line,
    State.outboundArrival_line, link]

/-! ## O6 to O8 -/

/-- Settles O6: the tests of R10 are the model's acceptance, and END's outer link is refused before them. -/
theorem failingFrameIsDiscarded : Obligations.FailingFrameIsDiscarded := by
  intro link burst s hr hw h
  rw [exec_frameArrival hr hw, State.arriveFrame_of_failing h]

/-- Settles O7, from what the arrival does (R17, R18) and the taking into an empty buffer (R12). -/
theorem outboundFrameIsTaken : Obligations.OutboundFrameIsTaken := by
  intro burst s hr hw hb hrx htx
  obtain ⟨frame, raises⟩ := s.outboundArrival_placeFrame_frame (burst.map RxByte.data)
  have line := State.outboundArrival_placeFrame_line (f := burst.map RxByte.data) hrx htx
  refine ⟨_, by rw [exec_frameArrival hr hw, State.arriveFrame_inner hb], ?_⟩
  rw [State.placeFrame_ctrl, State.placeFrame_demand, State.placeFrame_drive, s.outboundArrival_holds, line]
  cases role : s.power.role with
  | mid =>
    rw [State.forwardLink_inner_of_mid role]
    exact ⟨rfl, nofun, fun _ => ⟨rfl, rfl⟩, hrx, rfl, rfl, rfl, rfl, hw, rfl, State.outboundArrival_of_present_link,
      State.outboundArrival_node, frame, raises⟩
  | endNode =>
    rw [State.forwardLink_inner_of_endNode role]
    exact ⟨rfl, fun _ => ⟨rfl, rfl⟩, nofun, hrx, rfl, rfl, rfl, rfl, hw, rfl, State.outboundArrival_of_present_link,
      State.outboundArrival_node, frame, raises⟩

/-- Settles O8: the inbound frame by the three ways of a placed frame (R12, R13), the outbound frame by the two that
are left after its arrival (R17). -/
theorem blockedFrameWaitsOrDisplaces : Obligations.BlockedFrameWaitsOrDisplaces := by
  constructor
  · intro burst s hr hw hm hb
    have tx : LineBlock.tx s.line (s.forwardLink .outer) = s.line.txInner := rfl
    have rx : LineBlock.waiting s.line .outer = s.line.rxOuter := rfl
    rw [exec_frameArrival hr hw, State.arriveFrame_outer hm hb]
    refine ⟨fun hrx htx => ?_, fun hrx htx => ?_, fun g hrx => ?_⟩
    · rw [State.placeFrame_taken (rx.trans hrx) (tx.trans htx)]
      rfl
    · rw [State.placeFrame_waits (rx.trans hrx) (by rwa [tx])]
      rfl
    · rw [State.placeFrame_displaces (rx.trans hrx)]
      rfl
  · intro burst s hr hw hb blocked
    obtain ⟨frame, raises⟩ := s.outboundArrival_placeFrame_frame (burst.map RxByte.data)
    have hrx : LineBlock.waiting s.outboundArrival.line .inner = s.line.rxInner := by
      simp [LineBlock.waiting, State.outboundArrival_line]
    have tx : LineBlock.tx s.outboundArrival.line (s.outboundArrival.forwardLink .inner) = s.outboundTx := by
      rw [State.tx_forwardLink_inner, State.outboundArrival_outboundTx]
    have line : (s.outboundArrival.placeFrame .inner (burst.map RxByte.data)).line =
        { s.outboundArrival.line with rxInner := some (burst.map RxByte.data) } := by
      cases hg : s.line.rxInner with
      | none => rw [State.placeFrame_waits (hrx.trans hg) (by rw [tx]; simpa [hg] using blocked)]; rfl
      | some g => rw [State.placeFrame_displaces (hrx.trans hg)]; rfl
    have error (hg : s.line.rxInner ≠ none) :
        hasEvent (s.outboundArrival.placeFrame .inner (burst.map RxByte.data)).events.flags .lineError = true := by
      obtain ⟨g, hg⟩ := Option.ne_none_iff_exists'.1 hg
      rw [State.placeFrame_displaces (hrx.trans hg)]
      exact State.hasEvent_raise_self _ _
    refine ⟨_, by rw [exec_frameArrival hr hw, State.arriveFrame_inner hb], ?_⟩
    rw [line, State.placeFrame_ctrl, State.placeFrame_demand, State.placeFrame_drive, s.outboundArrival_holds,
      s.outboundArrival_line]
    exact ⟨rfl, rfl, rfl, State.outboundArrival_of_present_link, State.outboundArrival_node, rfl, rfl, rfl, error,
      frame, raises⟩

/-! ## The end of a transmission (R12, R22) -/

theorem exec_transmitComplete {link : Link} {g : Frame} {s : State} (hr : s.released = true)
    (ht : LineBlock.tx s.line link = .sending g) : exec (.transmitComplete link) s = .next (s.finishSending link) := by
  rw [show exec (.transmitComplete link) s = execTransmitComplete link s from rfl, execTransmitComplete,
    if_pos ⟨hr, by rw [ht]; rfl⟩]

/-- With no frame to take, or a line reset waiting, the buffer empties and nothing else changes. -/
theorem State.finishSending_empties {link : Link} {s : State}
    (h : LineBlock.waiting s.line (s.sourceLink link) = none ∨ s.line.waitingReset ≠ none) :
    s.finishSending link = s.withLine (LineBlock.withTx s.line link .empty) := by
  unfold State.finishSending
  split
  · next hw =>
    have hn := h.resolve_right (by simpa using hw)
    have hn' : LineBlock.waiting (LineBlock.withTx s.line link .empty) (s.sourceLink link) = none := by
      cases link <;> cases hl : s.sourceLink _ <;> rw [hl] at hn <;> exact hn
    simp only [State.takeWaiting, State.withLine_line]
    rw [show (s.withLine (LineBlock.withTx s.line link .empty)).sourceLink link = s.sourceLink link from rfl, hn']
  · rfl

/-- A frame that waits for the buffer is taken into it. -/
theorem State.finishSending_takes {link : Link} {f : Frame} {s : State} (hw : s.line.waitingReset = none)
    (h : LineBlock.waiting s.line (s.sourceLink link) = some f) :
    s.finishSending link =
      s.withLine (LineBlock.withTx (LineBlock.withWaiting s.line (s.sourceLink link) none) link (.taken f)) := by
  have h' : LineBlock.waiting (LineBlock.withTx s.line link .empty) (s.sourceLink link) = some f := by
    cases link <;> cases hl : s.sourceLink _ <;> rw [hl] at h <;> exact h
  unfold State.finishSending State.takeWaiting
  simp only [hw, Option.isNone_none, if_true, State.withLine_line]
  rw [show (s.withLine (LineBlock.withTx s.line link .empty)).sourceLink link = s.sourceLink link from rfl, h']
  cases link <;> cases s.sourceLink _ <;> rfl

/-- The link that feeds each transmit pair (R12). -/
theorem State.sourceLink_inner_of_mid {s : State} (h : s.power.role = .mid) : s.sourceLink .inner = .outer := by
  simp [State.sourceLink, State.isEnd_of_mid h]

theorem State.sourceLink_inner_of_endNode {s : State} (h : s.power.role = .endNode) : s.sourceLink .inner = .inner := by
  simp [State.sourceLink, State.isEnd_of_endNode h]

/-- TRANSMIT_COMPLETE of a frame being sent, with the link that feeds the pair named. -/
theorem exec_transmitComplete_cases {link source : Link} {g : Frame} {s : State} (hr : s.released = true)
    (ht : LineBlock.tx s.line link = .sending g) (src : s.sourceLink link = source) :
    (LineBlock.waiting s.line source = none ∨ s.line.waitingReset ≠ none →
        exec (.transmitComplete link) s = .next (s.withLine (LineBlock.withTx s.line link .empty)))
      ∧ ∀ f, s.line.waitingReset = none → LineBlock.waiting s.line source = some f →
        exec (.transmitComplete link) s =
          .next (s.withLine (LineBlock.withTx (LineBlock.withWaiting s.line source none) link (.taken f))) := by
  subst src
  rw [exec_transmitComplete hr ht]
  exact ⟨fun h => by rw [State.finishSending_empties h], fun f hw h => by rw [State.finishSending_takes hw h]⟩

/-- Settles O9: for each pair, the buffer empties or takes the frame of the link that feeds it. -/
theorem transmissionEndTakesWaitingFrame : Obligations.TransmissionEndTakesWaitingFrame :=
  ⟨fun _ _ hr _ ht => exec_transmitComplete_cases (link := .outer) (source := .inner) hr ht rfl,
    fun _ _ hr hm ht =>
      exec_transmitComplete_cases (link := .inner) (source := .outer) hr ht (State.sourceLink_inner_of_mid hm),
    fun _ _ hr he ht =>
      exec_transmitComplete_cases (link := .inner) (source := .inner) hr ht (State.sourceLink_inner_of_endNode he)⟩

/-! ## The frame timeout (R18) -/

theorem exec_frameTimeout_of_expired {s : State} {x : Timer} (hr : s.released = true)
    (ht : s.line.frameTimer = some x) (hl : x.left = 0) : exec .frameTimeout s = .next s.expireFrameTimer := by
  rw [show exec .frameTimeout s = execFrameTimeout s from rfl, execFrameTimeout,
    if_pos ⟨hr, (timerRunOut_iff _).2 ⟨x, ht, hl⟩⟩]

theorem exec_frameTimeout_of_running {s : State} (h : ∀ x, s.line.frameTimer = some x → x.left ≠ 0) :
    exec .frameTimeout s = .next s := by
  rw [show exec .frameTimeout s = execFrameTimeout s from rfl, execFrameTimeout,
    if_neg fun ⟨_, k⟩ => by obtain ⟨x, hx, h0⟩ := (timerRunOut_iff _).1 k; exact h x hx h0]

/-- The expiry, as the change of the hold-cause set between the event and the restart of the timer. -/
theorem State.expireFrameTimer_eq (s : State) :
    s.expireFrameTimer =
      ((s.raise .linkLost).setHolds { s.ctrl.holds with linkLost := true }).restartFrameTimer := rfl

theorem State.expireFrameTimer_line (s : State) :
    s.expireFrameTimer.line =
      { s.line with frameTimer := some (Timer.start (s.params.cyclePeriod * s.params.linkMissLimit)) } := by
  simp [State.expireFrameTimer, State.restartFrameTimer, State.frameTimeoutLength]

theorem State.expireFrameTimer_onlyRaises (s : State) :
    State.OnlyRaises (s.raise .linkLost) s.expireFrameTimer :=
  (State.setHolds_onlyRaises (s.raise .linkLost) { s.ctrl.holds with linkLost := true }).andThen
    (by simp [State.expireFrameTimer])

/-- Settles O10: LINK_LOST enters by a change of the hold-cause set, whose effect on a RUN node is
`setHolds_leaves_run`. -/
theorem frameTimeoutHoldsNode : Obligations.FrameTimeoutHoldsNode := by
  intro s hr
  refine ⟨fun h => exec_frameTimeout_of_running (by simp [h]),
    fun x hx hl => exec_frameTimeout_of_running (by simpa [hx] using hl), fun x hx hl => ?_⟩
  have raises := s.expireFrameTimer_onlyRaises
  refine ⟨_, exec_frameTimeout_of_expired hr hx hl, s.expireFrameTimer_line, ?_, ?_, fun hrun hlink => ?_,
    fun hlink => ?_, s.expireFrameTimer_frame, (s.raise_onlyRaises .linkLost).trans raises⟩
  · simp [State.expireFrameTimer]
  · exact raises.2.2 _ (s.hasEvent_raise_self _)
  · have hne : { s.ctrl.holds with linkLost := true } ≠ (s.raise .linkLost).ctrl.holds :=
      ne_of_apply_ne HoldCauses.linkLost (by simp [hlink])
    have leaves := State.setHolds_leaves_run (s := s.raise .linkLost) (by simpa using hrun) hne rfl
    have conditions : s.RunConditions → (s.raise .linkLost).RunConditions := fun h => h
    have hand : (s.raise .linkLost).handActive = s.handActive := rfl
    obtain ⟨node, d, c, hold, stop⟩ := leaves
    simp only [State.expireFrameTimer_eq, State.restartFrameTimer_ctrl, State.restartFrameTimer_demand,
      State.restartFrameTimer_drive]
    exact ⟨node, d, c, fun h => hold (conditions h), by simpa [hand] using stop⟩
  · have same : ({ s.ctrl.holds with linkLost := true } : HoldCauses) = (s.raise .linkLost).ctrl.holds := by
      rw [State.raise_ctrl, ← hlink]
    simp [State.expireFrameTimer, State.setHolds_same same]

/-! ## The line reset (R22, R42, R158, R173, R174) -/

theorem validIndex_eq (i : BitVec 5) : (!validIndex i) = decide (i.toNat = 0 ∨ i.toNat = 31) := by
  have := i.isLt
  rw [validIndex, ← decide_not, decide_eq_decide]
  omega

/-- The reset value of the Event Unit, event by event (R185). -/
theorem EventBlock.reset_sets (e : Event) : hasEvent EventBlock.reset.flags e = false
    ∧ hasEvent EventBlock.reset.enable e = true ∧ hasEvent EventBlock.reset.high e = decide (Event.rank e ≤ 9) := by
  cases e <;> decide

/-- A reset of all blocks leaves every block but the Crossing Table at its reset value. -/
theorem State.resetBlocks_blocksAtReset (s : State) (keep : Bool) : (s.resetBlocks keep).BlocksAtReset := by
  have slot : (s.resetBlocks keep).SlotAtReset := by cases keep <;> exact ⟨rfl, rfl, rfl, rfl, rfl⟩
  have ctrl : (s.resetBlocks keep).CtrlAtReset :=
    ⟨congrArg NodeState.standby (validIndex_eq s.power.index), rfl, rfl, rfl, rfl⟩
  have events : (s.resetBlocks keep).EventsAtReset := EventBlock.reset_sets
  have inputs : (s.resetBlocks keep).InputsAtReset := fun i => by
    cases i <;> exact ⟨rfl, rfl⟩
  exact ⟨⟨rfl, rfl, rfl, rfl, rfl, rfl, rfl, rfl⟩, slot, ctrl, ⟨rfl, rfl, rfl, rfl, rfl⟩,
    ⟨rfl, rfl, rfl, rfl, rfl, rfl⟩, ⟨rfl, rfl, rfl, rfl, rfl, rfl⟩,
    ⟨rfl, rfl, rfl, rfl, rfl, rfl, rfl, rfl, rfl, rfl, rfl⟩, events, inputs, ⟨rfl, rfl⟩⟩

/-- Every reset but a SOFT one resets the Crossing Table and its indication too (R42, R158). -/
theorem State.resetBlocks_tableAtReset (s : State) : (s.resetBlocks false).TableAtReset :=
  ⟨rfl, rfl, rfl, rfl, rfl, rfl, rfl, rfl, rfl⟩

theorem exec_lineResetEffect_of_quiet {s : State} {k : LineResetKind} (hr : s.released = true)
    (hk : s.line.waitingReset = some k) (hi : s.line.txInner = .empty) (ho : s.line.txOuter = .empty) :
    exec .lineResetEffect s = .next (s.resetBlocks (LineResetKind.keepsTable k)) := by
  rw [show exec .lineResetEffect s = execLineResetEffect s from rfl, execLineResetEffect,
    if_pos ⟨hr, s.lineQuiet_iff.2 ⟨hi, ho⟩⟩, hk]

/-- A line reset waits for both transmit buffers to empty (R22). -/
theorem exec_lineResetEffect_of_busy {s : State} (h : s.line.txInner ≠ .empty ∨ s.line.txOuter ≠ .empty) :
    exec .lineResetEffect s = .next s := by
  rw [show exec .lineResetEffect s = execLineResetEffect s from rfl, execLineResetEffect,
    if_neg fun ⟨_, q⟩ => by
      obtain ⟨hi, ho⟩ := s.lineQuiet_iff.1 q
      exact h.elim (fun n => n hi) (fun n => n ho)]

theorem exec_inboundTake_of_none {s : State} (h : ∀ f, s.line.txInner ≠ .taken f) : exec .inboundTake s = .next s := by
  rw [show exec .inboundTake s = execInboundTake s from rfl, execInboundTake]
  split
  · split
    · next f hf => exact absurd hf (h f)
    · rfl
    · rfl
  · rfl

theorem exec_outboundProcessing_of_none {s : State} (h : ∀ f, s.outboundTx ≠ .taken f) :
    exec .outboundProcessing s = .next s := by
  rw [show exec .outboundProcessing s = execOutboundProcessing s from rfl, execOutboundProcessing]
  split
  · split
    · next f hf => exact absurd hf (h f)
    · rfl
    · rfl
  · rfl

/-- Settles O5: the wait, the reset by its kind, and what is dropped meanwhile, each by the law of its command. -/
theorem lineResetTakesEffect : Obligations.LineResetTakesEffect := by
  intro k s hr hk
  have waits : s.line.waitingReset ≠ none := by simp [hk]
  refine ⟨exec_lineResetEffect_of_busy, fun hi ho => ?_, fun _ _ => exec_frameArrival_of_reset hk,
    exec_inboundTake_of_none, exec_outboundProcessing_of_none, fun g hg => ?_, fun g hg => ?_⟩
  · refine ⟨_, exec_lineResetEffect_of_quiet hr hk hi ho, rfl, rfl, s.resetBlocks_blocksAtReset _, ?_, ?_⟩
    · rintro rfl
      exact s.resetBlocks_tableAtReset
    · rintro rfl
      exact ⟨rfl, rfl⟩
  · exact (exec_transmitComplete_cases (link := .inner) hr hg rfl).1 (.inr waits)
  · exact (exec_transmitComplete_cases (link := .outer) hr hg rfl).1 (.inr waits)

end Sys2Proof.Machine
end

section
/-! SUPPORT. The return check (R19), the matching return and its latch (R20, R36, R38, R39), and the obligations about
them. -/

namespace Sys2Proof.Machine

/-! ## A raised event before a change of the hold-cause set -/

/-- A hold cause with an event of its own: what its entry does to a RUN node whose run conditions stand (R48, R132). -/
theorem State.raise_setHolds_holds_run {s : State} {e : Event} {h : HoldCauses} (hrun : s.ctrl.node = .run)
    (hne : h ≠ s.ctrl.holds) (hany : HoldCauses.any h = true) (hc : s.RunConditions) :
    ((s.raise e).setHolds h).ctrl.node = .hold ∧ ((s.raise e).setHolds h).demand.d = 0
      ∧ ((s.raise e).setHolds h).demand.c = 0
      ∧ DriveBlock.StoppedTo s.drive ((s.raise e).setHolds h).drive s.params.stopTime := by
  obtain ⟨-, d, c, hold, stop⟩ := State.setHolds_leaves_run (s := s.raise e) hrun hne hany
  exact ⟨hold hc, d, c, by simpa using stop hc.1⟩

/-! ## The return check (R19) -/

theorem State.loseReturns_holds (s : State) : s.loseReturns.ctrl.holds = { s.ctrl.holds with returnLost := true } := by
  simp [State.loseReturns]

theorem State.loseReturns_hasEvent (s : State) : hasEvent s.loseReturns.events.flags .returnLost = true :=
  (State.setHolds_onlyRaises (s.raise .returnLost) _).2.2 _ (s.hasEvent_raise_self _)

/-- The entry of RETURN_LOST takes a RUN node whose run conditions stand to HOLD (R48, R50). -/
theorem State.loseReturns_holds_run {s : State} (hrun : s.ctrl.node = .run) (hl : s.ctrl.holds.returnLost = false)
    (hc : s.RunConditions) :
    s.loseReturns.ctrl.node = .hold ∧ s.loseReturns.demand.d = 0 ∧ s.loseReturns.demand.c = 0
      ∧ DriveBlock.StoppedTo s.drive s.loseReturns.drive s.params.stopTime := by
  exact State.raise_setHolds_holds_run hrun (ne_of_apply_ne HoldCauses.returnLost (by simp [hl]))
    (by simp [HoldCauses.any]) hc

/-- `s` with one more return missed, the count staying at RETURN_MISS_LIMIT. -/
def State.withMiss (s : State) : State :=
  s.withLine { s.line with missCount := min s.params.returnMissLimit (s.line.missCount + 1) }

theorem State.countMiss_at_limit {s : State} (h : s.params.returnMissLimit ≤ s.line.missCount + 1) :
    s.countMiss = s.withMiss.loseReturns := by
  simp [State.countMiss, State.withMiss, h]

theorem State.countMiss_below_limit {s : State} (h : s.line.missCount + 1 < s.params.returnMissLimit) :
    s.countMiss = s.withMiss := by
  have below : ¬ s.params.returnMissLimit ≤ s.line.missCount + 1 := by omega
  simp [State.countMiss, State.withMiss, below]

theorem State.countMiss_line (s : State) :
    s.countMiss.line = { s.line with missCount := min s.params.returnMissLimit (s.line.missCount + 1) } := by
  unfold State.countMiss
  simp only
  split <;> simp

/-- The return check of a MID node that misses a return. -/
theorem State.returnCheck_of_miss {s : State} {seq : Word16} {r : ReturnRecord} (hm : s.power.role = .mid)
    (hr : s.line.returnRec = some r) (hn : r.returned = false) :
    s.returnCheck seq =
      s.countMiss.withLine { s.countMiss.line with returnRec := some { seq := seq, returned := false } } := by
  simp [State.returnCheck, State.isEnd_of_mid hm, hr, hn]

/-- The return check of a MID node with no return missed takes the new sequence and nothing else. -/
theorem State.returnCheck_of_returned {s : State} {seq : Word16} (hm : s.power.role = .mid)
    (h : s.line.returnRec = none ∨ ∃ r, s.line.returnRec = some r ∧ r.returned = true) :
    s.returnCheck seq = s.withLine { s.line with returnRec := some { seq := seq, returned := false } } := by
  obtain h | ⟨r, h, hr⟩ := h
  · simp [State.returnCheck, State.isEnd_of_mid hm, h]
  · simp [State.returnCheck, State.isEnd_of_mid hm, h, hr]

/-- Settles O11: a missed return is counted, and at the limit it is the entry of RETURN_LOST. -/
theorem returnMissIsCounted : Obligations.ReturnMissIsCounted := by
  intro seq s hm
  refine ⟨fun r hr hn => ?_, State.returnCheck_of_returned hm⟩
  rw [State.returnCheck_of_miss hm hr hn]
  refine ⟨by simp [State.countMiss_line], fun limit => ?_, fun below => ?_⟩
  · rw [State.countMiss_at_limit limit]
    exact ⟨State.loseReturns_holds _, State.loseReturns_hasEvent _,
      fun hrun hl hc => State.loseReturns_holds_run (s := s.withMiss) hrun hl hc⟩
  · rw [State.countMiss_below_limit below]
    exact ⟨rfl, rfl⟩

/-! ## CHAIN entering and leaving (R38, R39) -/

/-- The entry of CHAIN into a set that lacks it. -/
theorem State.enterChain_of_absent {s : State} (opener : Bool) (h : s.ctrl.holds.chain = false) :
    s.enterChain opener = (s.raiseIf (!opener) .chainStop).setHolds { s.ctrl.holds with chain := true } := by
  simp [State.enterChain, h]

theorem State.enterChain_of_present {s : State} (opener : Bool) (h : s.ctrl.holds.chain = true) :
    s.enterChain opener = s := by
  simp [State.enterChain, h]

theorem State.chainStop_outsideEvaluation : Event.outsideEvaluation .chainStop := ⟨nofun, nofun, nofun⟩

theorem State.enterChain_onlyRaises (s : State) (opener : Bool) : State.OnlyRaises s (s.enterChain opener) := by
  unfold State.enterChain
  split
  · exact .refl s
  · exact (s.raiseIf_onlyRaises (!opener) .chainStop).trans (State.setHolds_onlyRaises _ _)

/-- CHAIN_STOP is raised at the entry of CHAIN and by no other node than the opener (R38). -/
theorem State.enterChain_hasEvent_chainStop (s : State) (opener : Bool) :
    hasEvent (s.enterChain opener).events.flags .chainStop =
      (hasEvent s.events.flags .chainStop || (!s.ctrl.holds.chain && !opener)) := by
  cases hc : s.ctrl.holds.chain
  · rw [State.enterChain_of_absent opener hc, State.setHolds_hasEvent _ _ State.chainStop_outsideEvaluation]
    cases opener <;> simp [State.raiseIf, State.hasEvent_raise]
  · simp [State.enterChain_of_present opener hc]

theorem State.releaseChain_hasEvent_chainStop (s : State) :
    hasEvent s.releaseChain.events.flags .chainStop = hasEvent s.events.flags .chainStop :=
  State.setHolds_hasEvent _ _ State.chainStop_outsideEvaluation

/-- The entry of CHAIN takes a RUN node whose run conditions stand to HOLD (R48, R50, R132). -/
theorem State.enterChain_holds_run {s : State} (opener : Bool) (h : s.ctrl.holds.chain = false)
    (hrun : s.ctrl.node = .run) (hc : s.RunConditions) :
    (s.enterChain opener).ctrl.node = .hold ∧ (s.enterChain opener).demand.d = 0 ∧ (s.enterChain opener).demand.c = 0
      ∧ DriveBlock.StoppedTo s.drive (s.enterChain opener).drive s.params.stopTime := by
  have hne : { s.ctrl.holds with chain := true } ≠ s.ctrl.holds :=
    ne_of_apply_ne HoldCauses.chain (by simp [h])
  have hany : HoldCauses.any { s.ctrl.holds with chain := true } = true := by simp [HoldCauses.any]
  rw [State.enterChain_of_absent opener h]
  cases opener
  · exact State.raise_setHolds_holds_run hrun hne hany hc
  · obtain ⟨-, d, c, hold, stop⟩ := State.setHolds_leaves_run hrun hne hany
    exact ⟨hold hc, d, c, stop hc.1⟩

/-- A HOLD node that a further hold cause finds stays as it is, but for the set (R50). -/
theorem State.enterChain_of_hold {s : State} (opener : Bool) (hh : s.ctrl.node = .hold) (hc : s.RunConditions) :
    (s.enterChain opener).ctrl.node = .hold ∧ (s.enterChain opener).demand = s.demand
      ∧ (s.enterChain opener).drive = s.drive := by
  cases h : s.ctrl.holds.chain
  · rw [State.enterChain_of_absent opener h, State.setHolds_of_kept_node (by simp [hh, NodeState.serving])]
    · simp [State.withHolds, hh]
    · have hc' : ((s.raiseIf (!opener) .chainStop).withHolds { s.ctrl.holds with chain := true }).RunConditions :=
        hc.congr (by simp [State.withHolds]) (by simp [State.withHolds]) (by simp [State.withHolds])
          (by simp [State.withHolds])
      simp [State.tableState_of_runConditions hc', HoldCauses.any, hh]
  · simp [State.enterChain_of_present opener h, hh]

/-! ## The inbound take (R15, R20) -/

theorem exec_inboundTake_of_taken {s : State} {f : Frame} (hr : s.released = true) (hm : s.power.role = .mid)
    (ht : s.line.txInner = .taken f) : exec .inboundTake s = .next (s.takeInbound f) := by
  rw [show exec .inboundTake s = execInboundTake s from rfl, execInboundTake,
    if_pos ⟨hr, State.isEnd_of_mid hm⟩, ht]

/-- `s` with its return record marked and the count 0 (R20). -/
def State.marked (s : State) (f : Frame) : State :=
  s.withLine { s.line with returnRec := some { seq := frameSeq f, returned := true }, missCount := 0 }

/-- The state before the latch of a matching return: the record marked and RETURN_LOST cleared (R20). -/
def State.returned (s : State) (f : Frame) : State :=
  (s.marked f).setHolds { s.ctrl.holds with returnLost := false }

theorem State.returned_frame (s : State) (f : Frame) :
    State.SameOutside [.line, .ctrl, .demand, .drive, .events] s (s.returned f) :=
  State.SameOutside.trans (t := s.marked f) (fun b hb => by cases b <;> first | rfl | simp at hb)
    ((State.setHolds_frame _ _).mono (by decide))

theorem State.returned_onlyRaises (s : State) (f : Frame) : State.OnlyRaises s (s.returned f) :=
  State.OnlyRaises.trans (t := s.marked f) (.of_events rfl) (State.setHolds_onlyRaises _ _)

theorem State.returned_line (s : State) (f : Frame) : (s.returned f).line = { s.line with
    returnRec := some { seq := frameSeq f, returned := true }, missCount := 0 } := by
  simp [State.returned, State.marked]

theorem State.returned_holds (s : State) (f : Frame) :
    (s.returned f).ctrl.holds = { s.ctrl.holds with returnLost := false } := by
  simp [State.returned]

theorem State.RunConditions.returned {s : State} (h : s.RunConditions) (f : Frame) : (s.returned f).RunConditions :=
  State.RunConditions.setHolds (s := s.marked f) h _

/-- RETURN_LOST leaving a RUN node: it stays, or another cause takes it to HOLD. -/
theorem State.returned_of_run {s : State} (f : Frame) (hrun : s.ctrl.node = .run) (hc : s.RunConditions) :
    ((s.returned f).ctrl.node = .run ∧ (s.returned f).demand = s.demand ∧ (s.returned f).drive = s.drive)
      ∨ ((s.returned f).ctrl.node = .hold ∧ (s.returned f).demand.d = 0 ∧ (s.returned f).demand.c = 0
        ∧ DriveBlock.StoppedTo s.drive (s.returned f).drive s.params.stopTime) :=
  State.setHolds_of_run (s := s.marked f) hrun hc

/-- RETURN_LOST leaving a HOLD node. -/
theorem State.returned_node_of_hold {s : State} (f : Frame) (hh : s.ctrl.node = .hold) (hc : s.RunConditions) :
    (s.returned f).ctrl.node =
      if { s.ctrl.holds with returnLost := false } = s.ctrl.holds then .hold
      else if HoldCauses.any { s.ctrl.holds with returnLost := false } then .hold else .run :=
  State.setHolds_node_of_hold (s := s.marked f) hh hc

/-- `s` with the ceiling and the chain of a frame latched (R36). -/
def State.latched (s : State) (f : Frame) : State :=
  s.withSlot { s.slot with ceiling := min 1000 (frameCeiling f), chainOpen := frameChainOpen f }

@[simp] theorem State.latched_ctrl (s : State) (f : Frame) : (s.latched f).ctrl = s.ctrl := rfl

/-- The latch is a change of CHAIN on the latched state: entered by OPEN, released by CLOSED after a CLOSED outbound,
and else left (R38, R39). -/
theorem State.latchInbound_cases (s : State) (f : Frame) :
    (frameChainOpen f = true
        ∧ s.latchInbound f = (s.latched f).enterChain (decide (s.slot.outChain = .openedHere)))
      ∨ (frameChainOpen f = false ∧ s.slot.outChain = .closed ∧ s.latchInbound f = (s.latched f).releaseChain)
      ∨ (frameChainOpen f = false ∧ s.slot.outChain ≠ .closed ∧ s.latchInbound f = s.latched f) := by
  unfold State.latchInbound State.latched
  cases frameChainOpen f
  · by_cases hc : s.slot.outChain = .closed <;> simp [hc]
  · simp

theorem State.latchInbound_slot (s : State) (f : Frame) :
    (s.latchInbound f).slot =
      { s.slot with ceiling := min 1000 (frameCeiling f), chainOpen := frameChainOpen f } := by
  obtain ⟨-, e⟩ | ⟨-, -, e⟩ | ⟨-, -, e⟩ := s.latchInbound_cases f <;> simp [e, State.latched]

theorem State.latchInbound_holds (s : State) (f : Frame) :
    (s.latchInbound f).ctrl.holds = { s.ctrl.holds with
      chain := frameChainOpen f || (s.ctrl.holds.chain && !decide (s.slot.outChain = .closed)) } := by
  obtain ⟨ho, e⟩ | ⟨ho, hc, e⟩ | ⟨ho, hc, e⟩ := s.latchInbound_cases f
  · simp [e, ho, State.enterChain_holds, State.latched]
  · simp [e, ho, hc, State.releaseChain_holds, State.latched]
  · simp [e, ho, hc, State.latched]

theorem State.latchInbound_hasEvent_chainStop (s : State) (f : Frame) :
    hasEvent (s.latchInbound f).events.flags .chainStop =
      (hasEvent s.events.flags .chainStop
        || (frameChainOpen f && !s.ctrl.holds.chain && !decide (s.slot.outChain = .openedHere))) := by
  obtain ⟨ho, e⟩ | ⟨ho, hc, e⟩ | ⟨ho, hc, e⟩ := s.latchInbound_cases f
  · simp [e, ho, State.enterChain_hasEvent_chainStop, State.latched]
  · simp [e, ho, State.releaseChain_hasEvent_chainStop, State.latched]
  · simp [e, ho, State.latched]

theorem State.latchInbound_onlyRaises (s : State) (f : Frame) : State.OnlyRaises s (s.latchInbound f) := by
  have latch : State.OnlyRaises s (s.latched f) := .of_events rfl
  obtain ⟨-, e⟩ | ⟨-, -, e⟩ | ⟨-, -, e⟩ := s.latchInbound_cases f <;> rw [e]
  · exact latch.trans (State.enterChain_onlyRaises _ _)
  · exact latch.trans (State.setHolds_onlyRaises _ _)
  · exact latch

/-- A matching return: the record and the count, then the latch. -/
theorem State.takeInbound_of_match {s : State} {f : Frame}
    (h : s.line.returnRec = some { seq := frameSeq f, returned := false }) :
    s.takeInbound f = ((s.returned f).latchInbound f).withLine
      { ((s.returned f).latchInbound f).line with txInner := .sending f } := by
  simp [State.takeInbound, State.returnMatches, h, State.acceptReturn, State.returned, State.marked]

theorem State.takeInbound_of_no_match {s : State} {f : Frame}
    (h : s.line.returnRec ≠ some { seq := frameSeq f, returned := false }) :
    s.takeInbound f = s.withLine { s.line with txInner := .sending f } := by
  simp [State.takeInbound, State.returnMatches, h]

/-- CHAIN enters a RUN node at a matching return, whichever of the two changes of the set takes it to HOLD. -/
theorem State.returned_latchInbound_holds_run {s : State} {f : Frame} (ho : frameChainOpen f = true)
    (hch : s.ctrl.holds.chain = false) (hrun : s.ctrl.node = .run) (hc : s.RunConditions) :
    ((s.returned f).latchInbound f).ctrl.node = .hold ∧ ((s.returned f).latchInbound f).demand.d = 0
      ∧ ((s.returned f).latchInbound f).demand.c = 0
      ∧ DriveBlock.StoppedTo s.drive ((s.returned f).latchInbound f).drive s.params.stopTime := by
  have e : (s.returned f).latchInbound f = ((s.returned f).latched f).enterChain _ :=
    (((s.returned f).latchInbound_cases f).resolve_right (by simp [ho])).2
  have hc' : ((s.returned f).latched f).RunConditions := hc.returned f
  have hp : ((s.returned f).latched f).params = s.params := by simp [State.latched, State.returned, State.marked]
  rw [e]
  obtain ⟨node, demand, drive⟩ | ⟨node, d, c, stopped⟩ :=
    State.returned_of_run f hrun hc
  · have h := State.enterChain_holds_run (s := (s.returned f).latched f)
      (decide ((s.returned f).slot.outChain = .openedHere)) (by simp [State.returned_holds, hch]) node hc'
    rw [hp, show ((s.returned f).latched f).drive = s.drive from drive] at h
    exact h
  · obtain ⟨hnode, hdemand, hdrive⟩ := State.enterChain_of_hold (s := (s.returned f).latched f)
      (decide ((s.returned f).slot.outChain = .openedHere)) node hc'
    rw [hnode, hdemand, hdrive]
    exact ⟨rfl, d, c, stopped⟩

/-- As the last hold cause leaves at a matching return, a HOLD node goes to RUN (R45, R50). -/
theorem State.returned_latchInbound_runs {s : State} {f : Frame} (ho : frameChainOpen f = false)
    (hout : s.slot.outChain = .closed) (hh : s.ctrl.node = .hold) (hc : s.RunConditions)
    (hl : s.ctrl.holds.linkLost = false) (hns : s.ctrl.holds.noSlot = false)
    (hcause : s.ctrl.holds.chain = true ∨ s.ctrl.holds.returnLost = true) :
    ((s.returned f).latchInbound f).ctrl.node = .run := by
  have hout' : (s.returned f).slot.outChain = .closed := by
    rw [show (s.returned f).slot = s.slot from s.returned_frame f .slot (by decide), hout]
  have e : (s.returned f).latchInbound f = ((s.returned f).latched f).releaseChain := by
    obtain ⟨h, -⟩ | ⟨-, -, e⟩ | ⟨-, h, -⟩ := (s.returned f).latchInbound_cases f
    · simp [ho] at h
    · exact e
    · exact absurd hout' h
  have node := State.returned_node_of_hold f hh hc
  rw [e, State.releaseChain]
  cases hch : s.ctrl.holds.chain
  · rw [State.setHolds_same (by simp [State.latched, State.returned_holds, hch])]
    have hr := hcause.resolve_left (by simp [hch])
    have ne : ({ s.ctrl.holds with returnLost := false } : HoldCauses) ≠ s.ctrl.holds :=
      ne_of_apply_ne HoldCauses.returnLost (by simp [hr])
    rw [if_neg ne] at node
    simpa [HoldCauses.any, hl, hns, hch] using node
  · have stays : ((s.returned f).latched f).ctrl.node = .hold := by simpa [HoldCauses.any, hch] using node
    have hc' : ((s.returned f).latched f).RunConditions := hc.returned f
    have node' := State.setHolds_node_of_hold (h := { ((s.returned f).latched f).ctrl.holds with chain := false })
      stays hc'
    have ne : ({ ((s.returned f).latched f).ctrl.holds with chain := false } : HoldCauses)
        ≠ ((s.returned f).latched f).ctrl.holds :=
      ne_of_apply_ne HoldCauses.chain (by simp [State.latched, State.returned_holds, hch])
    rw [node', if_neg ne]
    simp [HoldCauses.any, State.latched, State.returned_holds, hl, hns]

/-- Settles O12. -/
theorem inboundFrameIsForwardedAndLatched : Obligations.InboundFrameIsForwardedAndLatched := by
  refine ⟨fun f s hr hm ht hn => ?_, fun f s hr hm ht hmatch => ?_⟩
  · rw [exec_inboundTake_of_taken hr hm ht, State.takeInbound_of_no_match hn]
  · have frame := s.takeInbound_frame f
    have slot : (s.returned f).slot = s.slot := s.returned_frame f .slot (by decide)
    have holds := s.returned_holds f
    have stop : hasEvent (s.returned f).events.flags .chainStop = hasEvent s.events.flags .chainStop :=
      State.setHolds_hasEvent _ _ State.chainStop_outsideEvaluation
    refine ⟨_, exec_inboundTake_of_taken hr hm ht, ?_⟩
    rw [State.takeInbound_of_match hmatch] at frame ⊢
    refine ⟨by simp [State.returned_line], by simp [State.latchInbound_slot, slot],
      by simp [State.latchInbound_holds, holds, slot], fun ho hch hout => ?_, fun h => ?_,
      State.returned_latchInbound_holds_run, State.returned_latchInbound_runs, frame,
      ((s.returned_onlyRaises f).trans (State.latchInbound_onlyRaises _ f)).andThen rfl⟩
    · simp [State.latchInbound_hasEvent_chainStop, ho, holds, slot, hch, hout]
    · rw [State.withLine_events, State.latchInbound_hasEvent_chainStop, stop, holds, slot]
      obtain h | h | h := h <;> simp [h]

end Sys2Proof.Machine
end

section
/-! SUPPORT. The bytes of the frame that a processing sends (R14, R16, R30, R32 to R34), and the obligations about
them. -/

namespace Sys2Proof.Machine

/-! ## Where the parts of a frame stand (R5) -/

/-- The bytes that a slot or the record occupies lie after the header and before the check (R5). -/
theorem FrameSized.length_eq {f : Frame} (h : FrameSized f) :
    f.length = recordAt f + 14 * (frameService f).toNat + 2 := by
  rw [recordAt, h.2.2]

theorem FrameSized.recordAt_ge {f : Frame} (h : FrameSized f) : 32 ≤ recordAt f := by
  have := h.1
  unfold recordAt
  omega

theorem FrameSized.recordAt_le {f : Frame} (h : FrameSized f) : recordAt f + 2 ≤ f.length := by
  have := h.length_eq
  omega

theorem FrameSized.length_of_service {f : Frame} (h : FrameSized f) (hs : frameService f = true) :
    f.length = recordAt f + 16 := by
  rw [h.length_eq, hs]
  rfl

theorem State.ownsSlot_bounds {s : State} {f : Frame} (h : s.ownsSlot f = true) :
    1 ≤ s.indexNat ∧ s.indexNat ≤ frameSlots f := by
  simp only [State.ownsSlot, State.slotPresent, State.indexValid, validIndex, Bool.and_eq_true, decide_eq_true_eq] at h
  obtain ⟨⟨valid, present⟩, -⟩ := h
  exact ⟨valid.1, present⟩

/-- An owned slot ends where the slots after it, or the record, begin. -/
theorem State.ownsSlot_slotAt {s : State} {f : Frame} (h : s.ownsSlot f = true) :
    12 ≤ slotAt s.indexNat ∧ slotAt s.indexNat + 20 ≤ recordAt f := by
  have := State.ownsSlot_bounds h
  unfold slotAt recordAt
  omega

/-! ## Bytes after each write -/

theorem byteAt_setCeiling (f : Frame) (c i : Nat) (h : i ≠ 8 ∧ i ≠ 9) : byteAt (setCeiling f c) i = byteAt f i :=
  byteAt_writeBytes_outside _ _ _ _ (by simp only [natBytes, wordBytes, List.length_cons, List.length_nil]; omega)

theorem frameCeiling_setCeiling (f : Frame) (c : Nat) (hf : 10 ≤ f.length) (hc : c < 65536) :
    frameCeiling (setCeiling f c) = c := by
  rw [frameCeiling, natAt, setCeiling, natBytes, word16At_writeBytes _ _ _ (by omega), BitVec.toNat_ofNat,
    Nat.mod_eq_of_lt hc]

theorem byteAt_setChainOpen (f : Frame) (opener : Byte) (i : Nat) (h : i ≠ 1 ∧ i ≠ 10) :
    byteAt (setChainOpen f opener) i = byteAt f i := by
  rw [setChainOpen, byteAt_set, if_neg (by omega), byteAt_set, if_neg (by omega)]

theorem byteAt_setChainOpen_control (f : Frame) (opener : Byte) (h : 1 < f.length) :
    byteAt (setChainOpen f opener) 1 = byteAt f 1 ||| 0x08#8 := by
  rw [setChainOpen, byteAt_set, if_neg (by omega), byteAt_set, if_pos ⟨rfl, h⟩]

theorem byteAt_setInbound (f : Frame) (i : Nat) (h : i ≠ 1) : byteAt (setInbound f) i = byteAt f i := by
  rw [setInbound, byteAt_set, if_neg (by omega)]

theorem byteAt_setInbound_control (f : Frame) (h : 1 < f.length) :
    byteAt (setInbound f) 1 = byteAt f 1 ||| 0x01#8 := by
  rw [setInbound, byteAt_set, if_pos ⟨rfl, h⟩]

theorem byteAt_setAnswer_outside (f : Frame) (r : ServiceRecord) (i : Nat)
    (h : i ≠ recordAt f + 3 ∧ (i < recordAt f + 6 ∨ recordAt f + 14 ≤ i)) :
    byteAt (setAnswer f r) i = byteAt f i := by
  rw [setAnswer,
    byteAt_writeBytes_outside _ _ _ _ (by simp only [Payload.bytes, List.length_cons, List.length_nil]; omega),
    byteAt_set, if_neg (by omega)]

theorem byteAt_setAnswer_result (f : Frame) (r : ServiceRecord) (h : recordAt f + 3 < f.length) :
    byteAt (setAnswer f r) (recordAt f + 3) = r.result := by
  rw [setAnswer, byteAt_writeBytes_outside _ _ _ _ (by omega), byteAt_set, if_pos ⟨rfl, h⟩]

theorem byteAt_setAnswer_payload (f : Frame) (r : ServiceRecord) (j : Nat) (h : recordAt f + 14 ≤ f.length)
    (hj : j < 8) : byteAt (setAnswer f r) (recordAt f + 6 + j) = (Payload.bytes r.payload).getD j 0 :=
  byteAt_writeBytes_inside _ _ _ _ (by simpa [Payload.bytes] using h) (by simpa [Payload.bytes] using hj)

/-- The record read back from a frame whose answer was written: the result and the payload are the answer's, the rest
is the frame's (R8). -/
theorem frameRecord_setAnswer (f : Frame) (r : ServiceRecord) (h : recordAt f + 14 ≤ f.length) :
    frameRecord (setAnswer f r) = { frameRecord f with result := r.result, payload := r.payload } := by
  have slots : recordAt (setAnswer f r) = recordAt f := by
    simp only [recordAt, frameSlots]
    rw [byteAt_setAnswer_outside _ _ _ (by simp only [recordAt]; omega)]
  have out (j : Nat) (hj : j < 6 ∧ j ≠ 3) : byteAt (setAnswer f r) (recordAt f + j) = byteAt f (recordAt f + j) :=
    byteAt_setAnswer_outside _ _ _ (by omega)
  have payload : payloadAt (setAnswer f r) (recordAt f + 6) = r.payload := by
    have := fun j hj => byteAt_setAnswer_payload f r j h hj
    simp only [payloadAt, this 1 (by omega), this 2 (by omega), this 3 (by omega), this 4 (by omega), this 5 (by omega),
      this 6 (by omega), this 7 (by omega), show byteAt (setAnswer f r) (recordAt f + 6) = _ from this 0 (by omega)]
    rfl
  have target := out 0 (by omega)
  have low := out 5 (by omega)
  simp only [frameRecord, slots, payload, word16At, byteAt_setAnswer_result f r (by omega), out 1 (by omega),
    out 2 (by omega), out 4 (by omega), Nat.add_zero, Nat.add_assoc] at target low ⊢
  rw [target, low]

/-! ## The fields that one byte or region of bytes decides -/

/-- Two frames with the same slot count and the same bytes of the record carry the same record. -/
theorem frameRecord_congr {f g : Frame} (hn : byteAt g 11 = byteAt f 11)
    (h : ∀ j, j < 14 → byteAt g (recordAt f + j) = byteAt f (recordAt f + j)) : frameRecord g = frameRecord f := by
  have slots : recordAt g = recordAt f := by simp only [recordAt, frameSlots, hn]
  have target := h 0 (by omega)
  simp only [Nat.add_zero] at target
  simp only [frameRecord, payloadAt, word16At, slots, Nat.add_assoc, target, h 1 (by omega), h 2 (by omega),
    h 3 (by omega), h 4 (by omega), h 5 (by omega), h 6 (by omega), h 7 (by omega), h 8 (by omega), h 9 (by omega),
    h 10 (by omega), h 11 (by omega), h 12 (by omega), h 13 (by omega)]

/-! ## The frame of stages 5 to 7 -/

theorem length_statusBytes (s : State) : s.statusBytes.length = 17 := by
  have trip : (tripBytes s.ctrl.trip).length = 2 := by cases s.ctrl.trip <;> rfl
  simp [State.statusBytes, natBytes, intBytes, wordBytes, trip]

/-- The frame of stage 5: the status written into an owned slot. -/
def State.statusFrame (s : State) (f : Frame) (owned : Bool) : Frame :=
  if owned then setStatus f s.indexNat s.statusBytes else f

@[simp] theorem State.length_statusFrame (s : State) (f : Frame) (owned : Bool) :
    (s.statusFrame f owned).length = f.length := by
  unfold State.statusFrame
  split <;> simp

/-- Stage 5 writes bytes 3 to 19 of the owned slot and no others (R30). -/
theorem State.byteAt_statusFrame_outside (s : State) (f : Frame) (owned : Bool) (i : Nat)
    (h : owned = true → i < slotAt s.indexNat + 3 ∨ slotAt s.indexNat + 20 ≤ i) :
    byteAt (s.statusFrame f owned) i = byteAt f i := by
  unfold State.statusFrame
  split
  · next ho => exact byteAt_writeBytes_outside _ _ _ _ (by rw [length_statusBytes]; have := h ho; omega)
  · rfl

theorem State.byteAt_statusFrame_inside (s : State) (f : Frame) (j : Nat) (h : slotAt s.indexNat + 20 ≤ f.length)
    (hj : j < 17) : byteAt (s.statusFrame f true) (slotAt s.indexNat + 3 + j) = s.statusBytes.getD j 0 := by
  rw [State.statusFrame, if_pos rfl, setStatus]
  exact byteAt_writeBytes_inside _ _ _ _ (by rw [length_statusBytes]; omega) (by rw [length_statusBytes]; exact hj)

@[simp] theorem State.length_chainFrame (s : State) (f : Frame) : (s.chainFrame f).length = f.length := by
  unfold State.chainFrame
  split <;> simp

/-- Stage 7 writes the control byte and the opener and no others (R33). -/
theorem State.byteAt_chainFrame_outside (s : State) (f : Frame) (i : Nat) (h : i ≠ 1 ∧ i ≠ 10) :
    byteAt (s.chainFrame f) i = byteAt f i := by
  unfold State.chainFrame
  split
  · exact byteAt_setChainOpen _ _ _ h
  · rfl

theorem State.byteAt_chainFrame_control (s : State) (f : Frame) (h : 1 < f.length) :
    byteAt (s.chainFrame f) 1 = byteAt f 1 ||| (if s.opensHere f then 0x08#8 else 0) := by
  unfold State.chainFrame
  split
  · exact byteAt_setChainOpen_control _ _ h
  · simp

theorem State.headedFrame_eq (s : State) (f : Frame) (owned : Bool) :
    s.headedFrame f owned = s.chainFrame (setCeiling (s.statusFrame f owned) (s.outgoingCeiling f)) := rfl

@[simp] theorem State.length_headedFrame (s : State) (f : Frame) (owned : Bool) :
    (s.headedFrame f owned).length = f.length := by
  rw [State.headedFrame_eq]
  simp

/-- The places that stages 5 to 7 leave as they arrived. -/
theorem State.byteAt_headedFrame_outside (s : State) (f : Frame) (owned : Bool) (i : Nat)
    (h : i ≠ 1 ∧ i ≠ 8 ∧ i ≠ 9 ∧ i ≠ 10)
    (hs : owned = true → i < slotAt s.indexNat + 3 ∨ slotAt s.indexNat + 20 ≤ i) :
    byteAt (s.headedFrame f owned) i = byteAt f i := by
  rw [State.headedFrame_eq, State.byteAt_chainFrame_outside _ _ _ ⟨h.1, h.2.2.2⟩,
    byteAt_setCeiling _ _ _ ⟨h.2.1, h.2.2.1⟩, State.byteAt_statusFrame_outside _ _ _ _ hs]

theorem State.byteAt_headedFrame_status (s : State) (f : Frame) (j : Nat) (h : slotAt s.indexNat + 20 ≤ f.length)
    (h0 : 12 ≤ slotAt s.indexNat) (hj : j < 17) :
    byteAt (s.headedFrame f true) (slotAt s.indexNat + 3 + j) = s.statusBytes.getD j 0 := by
  rw [State.headedFrame_eq, State.byteAt_chainFrame_outside _ _ _ (by omega), byteAt_setCeiling _ _ _ (by omega),
    State.byteAt_statusFrame_inside _ _ _ h hj]

/-- Stages 5 and 6 leave the control byte, so the chain that stage 7 looks at is the one that arrived (R33). -/
theorem State.opensHere_headed (s : State) (f : Frame) (owned : Bool) :
    s.opensHere (setCeiling (s.statusFrame f owned) (s.outgoingCeiling f)) = s.opensHere f := by
  have control : byteAt (setCeiling (s.statusFrame f owned) (s.outgoingCeiling f)) 1 = byteAt f 1 := by
    rw [byteAt_setCeiling _ _ _ (by omega), State.byteAt_statusFrame_outside _ _ _ _ (by unfold slotAt; omega)]
  simp only [State.opensHere, frameChainOpen, control]

theorem State.byteAt_headedFrame_control (s : State) (f : Frame) (owned : Bool) (h : 1 < f.length) :
    byteAt (s.headedFrame f owned) 1 = byteAt f 1 ||| (if s.opensHere f then 0x08#8 else 0) := by
  rw [State.headedFrame_eq, State.byteAt_chainFrame_control _ _ (by simpa using h), State.opensHere_headed,
    byteAt_setCeiling _ _ _ (by omega), State.byteAt_statusFrame_outside _ _ _ _ (by unfold slotAt; omega)]

theorem State.outgoingCeiling_le (s : State) (f : Frame) : s.outgoingCeiling f ≤ 1000 := by
  unfold State.outgoingCeiling
  omega

/-- The ceiling field of the frame after stage 7 is the outgoing ceiling (R32). -/
theorem State.frameCeiling_headedFrame (s : State) (f : Frame) (owned : Bool) (h : 10 ≤ f.length) :
    frameCeiling (s.headedFrame f owned) = s.outgoingCeiling f := by
  have le := s.outgoingCeiling_le f
  rw [← frameCeiling_setCeiling (s.statusFrame f owned) (s.outgoingCeiling f) (by simpa using h) (by omega)]
  simp only [frameCeiling, natAt, word16At, State.headedFrame_eq]
  rw [State.byteAt_chainFrame_outside _ _ 8 (by omega), State.byteAt_chainFrame_outside _ _ (8 + 1) (by omega)]

/-! ## The frame after stage 8 -/

/-- The frame that stage 7 leaves in the processing of `f` (R33). -/
def State.frameThroughChain (s : State) (f : Frame) : Frame := (s.throughMotion f).headedFrame f (s.ownsSlot f)

@[simp] theorem State.length_frameThroughChain (s : State) (f : Frame) : (s.frameThroughChain f).length = f.length := by
  simp [State.frameThroughChain]

@[simp] theorem State.throughMotion_indexNat (s : State) (f : Frame) : (s.throughMotion f).indexNat = s.indexNat := by
  simp [State.indexNat]

theorem State.throughChain_power (s : State) (f : Frame) : (s.throughChain f).power = s.power := by
  simp [State.throughChain]

theorem State.byteAt_frameThroughChain_outside (s : State) (f : Frame) (i : Nat)
    (h : i ≠ 1 ∧ i ≠ 8 ∧ i ≠ 9 ∧ i ≠ 10)
    (hs : s.ownsSlot f = true → i < slotAt s.indexNat + 3 ∨ slotAt s.indexNat + 20 ≤ i) :
    byteAt (s.frameThroughChain f) i = byteAt f i :=
  State.byteAt_headedFrame_outside _ _ _ _ h (by simpa using hs)

theorem State.byteAt_frameThroughChain_control {s : State} {f : Frame} (h : 1 < f.length) :
    byteAt (s.frameThroughChain f) 1 = byteAt f 1 ||| (if (s.throughMotion f).opensHere f then 0x08#8 else 0) :=
  State.byteAt_headedFrame_control _ _ _ h

theorem State.byteAt_frameThroughChain_slots (s : State) (f : Frame) :
    byteAt (s.frameThroughChain f) 11 = byteAt f 11 :=
  State.byteAt_frameThroughChain_outside _ _ _ (by omega) (fun h => by have := State.ownsSlot_slotAt h; omega)

theorem State.recordAt_frameThroughChain (s : State) (f : Frame) : recordAt (s.frameThroughChain f) = recordAt f := by
  simp only [recordAt, frameSlots, s.byteAt_frameThroughChain_slots f]

/-- Only the chain bit of the control byte is written before stage 9. -/
theorem State.control_bit_frameThroughChain {s : State} {f : Frame} (h : 1 < f.length) (b : Nat) (hb : b ≠ 3) :
    (byteAt (s.frameThroughChain f) 1).getLsbD b = (byteAt f 1).getLsbD b := by
  have bit : (0x08#8).getLsbD b = false := by
    by_cases h8 : b < 8
    · interval_cases b <;> first | rfl | omega
    · exact BitVec.getLsbD_of_ge _ _ (by omega)
  rw [State.byteAt_frameThroughChain_control h]
  split <;> simp [bit]

/-- Stage 8 finds the service flag and the record that arrived (R34). -/
theorem State.frameService_frameThroughChain {s : State} {f : Frame} (h : FrameSized f) :
    frameService (s.frameThroughChain f) = frameService f :=
  State.control_bit_frameThroughChain (by have := h.recordAt_le; have := h.recordAt_ge; omega) 4 (by omega)

theorem State.frameRecord_frameThroughChain {s : State} {f : Frame} (h : FrameSized f) :
    frameRecord (s.frameThroughChain f) = frameRecord f :=
  frameRecord_congr (s.byteAt_frameThroughChain_slots f) fun j _ =>
    State.byteAt_frameThroughChain_outside _ _ _ (by have := h.recordAt_ge; omega)
      (fun ho => by have := State.ownsSlot_slotAt ho; omega)

/-- The record of `f` as stage 8 leaves it. -/
def State.handledRecord (s : State) (f : Frame) : ServiceRecord := ((s.throughChain f).serve (frameRecord f)).2

theorem State.handledRecord_request (s : State) (f : Frame) :
    (s.handledRecord f).target = (frameRecord f).target ∧ (s.handledRecord f).op = (frameRecord f).op
      ∧ (s.handledRecord f).tag = (frameRecord f).tag ∧ (s.handledRecord f).item = (frameRecord f).item :=
  State.serve_record _ _

/-- The frame that stage 8 leaves in the processing of `f` (R34). -/
def State.frameThroughService (s : State) (f : Frame) : Frame :=
  if frameService f then setAnswer (s.frameThroughChain f) (s.handledRecord f) else s.frameThroughChain f

/-- Stage 8 of a frame that R5 allows, in the terms of the frame that arrived. -/
theorem State.stageService_frameThroughChain {s : State} {f : Frame} (h : FrameSized f) :
    (s.throughChain f).stageService (s.frameThroughChain f) = (s.throughService f, s.frameThroughService f) := by
  unfold State.stageService State.throughService State.frameThroughService State.handledRecord
  rw [State.frameService_frameThroughChain h, State.frameRecord_frameThroughChain h]
  split <;> rfl

@[simp] theorem State.length_frameThroughService (s : State) (f : Frame) :
    (s.frameThroughService f).length = f.length := by
  unfold State.frameThroughService
  split <;> simp

theorem State.addressed_throughChain (s : State) (f : Frame) (target : Byte) :
    (s.throughChain f).addressed target = s.addressed target := by
  have index : (s.throughChain f).indexNat = s.indexNat := by
    rw [State.indexNat, State.indexNat, s.throughChain_power f]
  rw [State.addressed, State.addressed, State.indexValid_congr (s.throughChain_power f), index]

/-- An answer written over the record it came from changes nothing (R14). -/
theorem byteAt_setAnswer_self (f : Frame) (r : ServiceRecord) (h : recordAt f + 14 ≤ f.length)
    (hr : r.result = (frameRecord f).result) (hp : r.payload = (frameRecord f).payload) (i : Nat) :
    byteAt (setAnswer f r) i = byteAt f i := by
  by_cases hi : i = recordAt f + 3
  · rw [hi, byteAt_setAnswer_result _ _ (by omega), hr]
    rfl
  · by_cases hj : recordAt f + 6 ≤ i ∧ i < recordAt f + 14
    · obtain ⟨j, rfl⟩ : ∃ j, i = recordAt f + 6 + j := ⟨i - (recordAt f + 6), by omega⟩
      have hj8 : j < 8 := by omega
      rw [byteAt_setAnswer_payload _ _ _ h hj8, hp]
      interval_cases j <;> rfl
    · exact byteAt_setAnswer_outside _ _ _ (by omega)

/-- Stage 8 writes the result and the payload of a record addressed to the node, and no other byte (R14, R161). -/
theorem State.byteAt_frameThroughService_outside {s : State} {f : Frame} (h : FrameSized f) (i : Nat)
    (hi : frameService f = true → s.addressed (frameRecord f).target = true →
      i ≠ recordAt f + 3 ∧ (i < recordAt f + 6 ∨ recordAt f + 14 ≤ i)) :
    byteAt (s.frameThroughService f) i = byteAt (s.frameThroughChain f) i := by
  unfold State.frameThroughService
  split
  · next hs =>
    have len := h.length_of_service hs
    have at7 := s.recordAt_frameThroughChain f
    cases ha : s.addressed (frameRecord f).target
    · have same : s.handledRecord f = frameRecord f :=
        State.serve_record_of_not_addressed _ _ (by rw [State.addressed_throughChain, ha])
      exact byteAt_setAnswer_self _ _ (by rw [at7]; simp; omega)
        (by rw [same, State.frameRecord_frameThroughChain h]) (by rw [same, State.frameRecord_frameThroughChain h]) i
    · exact byteAt_setAnswer_outside _ _ _ (by rw [at7]; exact hi hs ha)
  · rfl

/-- The header of the frame after stage 7 is that of the frame after stage 8. -/
theorem State.byteAt_frameThroughService_header {s : State} {f : Frame} (h : FrameSized f) (i : Nat) (hi : i < 32) :
    byteAt (s.frameThroughService f) i = byteAt (s.frameThroughChain f) i :=
  State.byteAt_frameThroughService_outside h i fun _ _ => by have := h.recordAt_ge; omega

/-- The record of the frame after stage 8 is the record as handled (R8, R34). -/
theorem State.frameRecord_frameThroughService {s : State} {f : Frame} (h : FrameSized f) (hs : frameService f = true) :
    frameRecord (s.frameThroughService f) = s.handledRecord f := by
  have len := h.length_of_service hs
  obtain ⟨target, op, tag, item⟩ := s.handledRecord_request f
  rw [State.frameThroughService, if_pos hs, frameRecord_setAnswer _ _
    (by rw [s.recordAt_frameThroughChain f]; simp; omega), State.frameRecord_frameThroughChain h]
  generalize s.handledRecord f = r at target op tag item ⊢
  cases r
  simp only at target op tag item
  rw [target, op, tag, item]

/-! ## The frame that is sent -/

theorem State.processFrame_snd {s : State} {f : Frame} (h : FrameSized f) :
    (s.processFrame f).2 =
      sealFrame (if s.isEnd then setInbound (s.frameThroughService f) else s.frameThroughService f) := by
  have sent : (s.processFrame f).2 = sealFrame
      (if s.isEnd then setInbound ((s.throughChain f).stageService (s.frameThroughChain f)).2
        else ((s.throughChain f).stageService (s.frameThroughChain f)).2) := by
    unfold State.processFrame
    split <;> rfl
  rw [sent, State.stageService_frameThroughChain h]

theorem State.length_processFrame {s : State} {f : Frame} (h : FrameSized f) :
    (s.processFrame f).2.length = f.length := by
  have := h.recordAt_le
  rw [State.processFrame_snd h, length_sealFrame] <;> (split <;> simp <;> omega)

/-- Before the check, and but for the control byte, the sent frame is the frame of stage 8 (R14, R16). -/
theorem State.byteAt_processFrame {s : State} {f : Frame} (h : FrameSized f) (i : Nat) (hi : i + 2 < f.length)
    (h1 : i ≠ 1) : byteAt (s.processFrame f).2 i = byteAt (s.frameThroughService f) i := by
  rw [State.processFrame_snd h, byteAt_sealFrame _ _ (by split <;> simpa using hi)]
  split
  · exact byteAt_setInbound _ _ h1
  · rfl

/-- The control byte of the sent frame: the pass turned at END, the chain opened where the node opens it (R16, R33). -/
theorem State.control_processFrame {s : State} {f : Frame} (h : FrameSized f) :
    byteAt (s.processFrame f).2 1 = byteAt f 1 ||| (if (s.throughMotion f).opensHere f then 0x08#8 else 0)
      ||| (if s.isEnd then 0x01#8 else 0) := by
  have len : 34 ≤ f.length := by have := h.recordAt_le; have := h.recordAt_ge; omega
  have service : byteAt (s.frameThroughService f) 1 =
      byteAt f 1 ||| (if (s.throughMotion f).opensHere f then 0x08#8 else 0) := by
    rw [State.byteAt_frameThroughService_header h _ (by omega), State.byteAt_frameThroughChain_control (by omega)]
  rw [State.processFrame_snd h, byteAt_sealFrame _ _ (by split <;> simp <;> omega), ← service]
  split
  · exact byteAt_setInbound_control _ (by simp; omega)
  · simp

theorem State.checkHolds_processFrame {s : State} {f : Frame} (h : FrameSized f) :
    checkHolds (s.processFrame f).2 = true := by
  have := h.recordAt_le
  rw [State.processFrame_snd h]
  exact checkHolds_sealFrame _ (by split <;> simp <;> omega)

/-- The ceiling of the sent frame is the outgoing ceiling of stage 6 (R32). -/
theorem State.frameCeiling_processFrame {s : State} {f : Frame} (h : FrameSized f) :
    frameCeiling (s.processFrame f).2 = (s.throughMotion f).outgoingCeiling f := by
  have len : 34 ≤ f.length := by have := h.recordAt_le; have := h.recordAt_ge; omega
  rw [← State.frameCeiling_headedFrame (s.throughMotion f) f (s.ownsSlot f) (by omega)]
  simp only [frameCeiling, natAt, word16At]
  rw [State.byteAt_processFrame h 8 (by omega) (by omega), State.byteAt_processFrame h (8 + 1) (by omega) (by omega),
    State.byteAt_frameThroughService_header h _ (by omega), State.byteAt_frameThroughService_header h _ (by omega)]
  rfl

/-- The chain of the sent frame is that of the frame after stage 7. -/
theorem State.frameChainOpen_processFrame {s : State} {f : Frame} (h : FrameSized f) :
    frameChainOpen (s.processFrame f).2 = frameChainOpen (s.frameThroughChain f) := by
  have len : 34 ≤ f.length := by have := h.recordAt_le; have := h.recordAt_ge; omega
  rw [frameChainOpen, frameChainOpen, State.control_processFrame h, State.byteAt_frameThroughChain_control (by omega),
    BitVec.getLsbD_or]
  cases s.isEnd <;> simp

/-! ## O14 and O17 -/

/-- Settles O14: each byte of the sent frame through the stages that may write it. -/
theorem forwardedFrameLaw : Obligations.ForwardedFrameLaw := by
  intro f s h
  have ge := h.recordAt_ge
  have le := h.recordAt_le
  refine ⟨State.length_processFrame h, fun i hi => ?_, fun b hb h0 h3 => ?_, fun hm => ?_,
    State.checkHolds_processFrame h, fun hs => ?_⟩
  · simp only [State.MayChange, not_or, not_and, not_lt, not_le] at hi
    obtain ⟨slot, h8, h9, h1, h10, answer, check⟩ := hi
    rw [State.byteAt_processFrame h i (by omega) h1, State.byteAt_frameThroughService_outside h i,
      State.byteAt_frameThroughChain_outside _ _ _ ⟨h1, h8, h9, h10⟩]
    · intro ho
      have := slot ho
      omega
    · intro hs ha
      have := answer hs ha
      omega
  · rw [State.control_processFrame h]
    interval_cases b <;> first | omega | (split <;> split <;> simp)
  · rw [frameInbound, frameInbound, State.control_processFrame h, State.isEnd_of_mid hm]
    split <;> simp
  · have len := h.length_of_service hs
    change _ = s.handledRecord f
    rw [← State.frameRecord_frameThroughService h hs]
    have header := State.byteAt_frameThroughService_header (s := s) h 11 (by omega)
    have at8 : recordAt (s.frameThroughService f) = recordAt f := by
      simp only [recordAt, frameSlots, header, s.byteAt_frameThroughChain_slots f]
    exact frameRecord_congr (State.byteAt_processFrame h 11 (by omega) (by omega)) fun j hj =>
      State.byteAt_processFrame h _ (by omega) (by omega)

/-- The status bytes of the sent frame are those of the state that stage 4 left (R30). -/
theorem State.byteAt_processFrame_status {s : State} {f : Frame} (h : FrameSized f) (ho : s.ownsSlot f = true) (j : Nat)
    (hj : j < 17) :
    byteAt (s.processFrame f).2 (slotAt s.indexNat + 3 + j) = (s.throughMotion f).statusBytes.getD j 0 := by
  have le := h.recordAt_le
  obtain ⟨ge12, ge⟩ := State.ownsSlot_slotAt ho
  have status := State.byteAt_headedFrame_status (s.throughMotion f) f j (by simp; omega) (by simp; omega) hj
  rw [State.throughMotion_indexNat] at status
  rw [State.byteAt_processFrame h _ (by omega) (by omega), State.byteAt_frameThroughService_outside h _ (by omega),
    State.frameThroughChain, ho, status]

/-- Settles O17: each field is read from the seventeen status bytes. -/
theorem statusDescribesNode : Obligations.StatusDescribesNode := by
  intro f s h ho g u k
  have byte (j : Nat) (hj : j < 17) : byteAt g (k + (3 + j)) = u.statusBytes.getD j 0 := by
    rw [← Nat.add_assoc]
    exact State.byteAt_processFrame_status h ho j hj
  have word (j : Nat) (hj : j < 16) (w : Word16) (h0 : u.statusBytes.getD j 0 = highByte w)
      (h1 : u.statusBytes.getD (j + 1) 0 = lowByte w) : word16At g (k + (3 + j)) = w := by
    rw [word16At, byte j (by omega), show k + (3 + j) + 1 = k + (3 + (j + 1)) by omega, byte (j + 1) (by omega), h0, h1]
    exact highByte_append_lowByte w
  refine ⟨byte 0 (by omega), byte 1 (by omega), byte 2 (by omega), word 3 (by omega) _ rfl rfl,
    word 5 (by omega) _ rfl rfl, word 7 (by omega) _ rfl rfl, word 9 (by omega) _ rfl rfl, byte 11 (by omega),
    word 12 (by omega) _ rfl rfl, byte 14 (by omega), fun hn => ?_, fun r hr => ?_⟩
  · have trip : tripBytes u.ctrl.trip = [0, 0] := by rw [hn]; rfl
    rw [byte 15 (by omega), byte 16 (by omega), State.statusBytes, trip]
    exact ⟨rfl, rfl⟩
  · have trip : tripBytes u.ctrl.trip = [TripCause.code r.cause, BitVec.ofNat 8 r.extra] := by rw [hr]; rfl
    rw [byte 15 (by omega), byte 16 (by omega), State.statusBytes, trip]
    exact ⟨rfl, rfl⟩

end Sys2Proof.Machine
end

section
/-! SUPPORT. The state that a processing leaves (R12, R16, R19, R34 to R39, R44, R109, R122, R125, R187), and the
obligations about it. -/

namespace Sys2Proof.Machine

/-! ## The direction record: written by the hand-over alone (R122) -/

@[simp] theorem State.enterRunning_dirRecord (s : State) : s.enterRunning.drive.dirRecord = s.drive.dirRecord := rfl

@[simp] theorem State.takeReady_dirRecord (s : State) : s.takeReady.drive.dirRecord = s.drive.dirRecord := by
  unfold State.takeReady
  split <;> simp

@[simp] theorem State.startDutyPeriod_dirRecord (s : State) :
    s.startDutyPeriod.drive.dirRecord = s.drive.dirRecord := by
  unfold State.startDutyPeriod
  simp only
  split <;> simp

@[simp] theorem State.startIfDue_dirRecord (s : State) : s.startIfDue.drive.dirRecord = s.drive.dirRecord := by
  unfold State.startIfDue State.startRate
  (repeat' split) <;> simp

@[simp] theorem State.startJogIfDue_dirRecord (s : State) : s.startJogIfDue.drive.dirRecord = s.drive.dirRecord := by
  unfold State.startJogIfDue
  (repeat' split) <;> simp

@[simp] theorem State.enterStopping_dirRecord (s : State) : s.enterStopping.drive.dirRecord = s.drive.dirRecord := by
  unfold State.enterStopping State.arriveOff
  split <;> simp

@[simp] theorem State.driveStop_dirRecord (s : State) : s.driveStop.drive.dirRecord = s.drive.dirRecord := by
  unfold State.driveStop
  split <;> simp

@[simp] theorem State.endJog_dirRecord (s : State) : s.endJog.drive.dirRecord = s.drive.dirRecord := by
  unfold State.endJog
  split <;> simp

@[simp] theorem State.moveTo_dirRecord (s : State) (n : NodeState) :
    (s.moveTo n).drive.dirRecord = s.drive.dirRecord := by
  unfold State.moveTo State.noteLocalEntry
  (repeat' split) <;> simp

@[simp] theorem State.tripRequest_dirRecord (s : State) (cause : TripCause) :
    (s.tripRequest cause).drive.dirRecord = s.drive.dirRecord := by
  unfold State.tripRequest
  (repeat' split) <;> simp

@[simp] theorem State.evaluate_dirRecord (s : State) : s.evaluate.drive.dirRecord = s.drive.dirRecord := by
  unfold State.evaluate State.safeRequest
  simp only
  split <;> simp

@[simp] theorem State.setHolds_dirRecord (s : State) (h : HoldCauses) :
    (s.setHolds h).drive.dirRecord = s.drive.dirRecord := by
  unfold State.setHolds
  split <;> simp

@[simp] theorem State.enterChain_dirRecord (s : State) (opener : Bool) :
    (s.enterChain opener).drive.dirRecord = s.drive.dirRecord := by
  unfold State.enterChain
  split <;> simp

@[simp] theorem State.raiseStall_dirRecord (s : State) : s.raiseStall.drive.dirRecord = s.drive.dirRecord := by
  unfold State.raiseStall State.tripRequestIf
  simp only
  (repeat' split) <;> simp

@[simp] theorem State.changeDirection_dirRecord (s : State) :
    s.changeDirection.drive.dirRecord = s.drive.dirRecord := by
  unfold State.changeDirection State.haltToReverse
  (repeat' split) <;> simp

@[simp] theorem State.actOnDemand_dirRecord (s : State) : s.actOnDemand.drive.dirRecord = s.drive.dirRecord := by
  unfold State.actOnDemand State.actDuty State.actRate State.endOnTime
  (repeat' split) <;> simp

/-- The hand-over writes the frame's direction (R122). -/
theorem State.handDemandOver_dirRecord (s : State) (f : Frame) (candidate : Nat) :
    (s.handDemandOver f candidate).drive.dirRecord = frameDirection f := by
  simp [State.handDemandOver]

/-! ## The machine mode record: written at the start of stage 4 alone (R44) -/

@[simp] theorem State.tripRequest_machineRun (s : State) (cause : TripCause) :
    (s.tripRequest cause).ctrl.machineRun = s.ctrl.machineRun := (s.tripRequest_ctrl cause).2.2

@[simp] theorem State.tripRequestIf_machineRun (s : State) (b : Bool) (cause : TripCause) :
    (s.tripRequestIf b cause).ctrl.machineRun = s.ctrl.machineRun := by
  unfold State.tripRequestIf
  split <;> simp

@[simp] theorem State.evaluate_machineRun (s : State) : s.evaluate.ctrl.machineRun = s.ctrl.machineRun :=
  s.evaluate_ctrl.2.2

@[simp] theorem State.firstEvaluate_machineRun (s : State) : s.firstEvaluate.ctrl.machineRun = s.ctrl.machineRun := by
  unfold State.firstEvaluate State.safeRequest State.withNode
  simp only
  (repeat' split) <;> simp

@[simp] theorem State.takeRequests_machineRun (s : State) (r : TripRequests) :
    (s.takeRequests r).ctrl.machineRun = s.ctrl.machineRun := by
  unfold State.takeRequests
  simp only [State.tripRequestIf_machineRun]
  split <;> simp

@[simp] theorem State.enterChain_machineRun (s : State) (opener : Bool) :
    (s.enterChain opener).ctrl.machineRun = s.ctrl.machineRun := by
  unfold State.enterChain
  split <;> simp

@[simp] theorem State.releaseChain_machineRun (s : State) : s.releaseChain.ctrl.machineRun = s.ctrl.machineRun :=
  State.setHolds_machineRun _ _

@[simp] theorem State.raiseStall_machineRun (s : State) : s.raiseStall.ctrl.machineRun = s.ctrl.machineRun := by
  unfold State.raiseStall
  simp only
  split <;> simp

/-- Stage 4 leaves the frame's machine mode (R44) and direction (R122) in the records. -/
theorem State.stageMotion_records (s : State) (f : Frame) :
    (s.stageMotion f).ctrl.machineRun = frameMachineRun f ∧ (s.stageMotion f).drive.dirRecord = frameDirection f := by
  unfold State.stageMotion State.beginMotion
  exact ⟨by simp, State.handDemandOver_dirRecord _ _ _⟩

/-! ## The parameters: changed by a swap alone (R140) -/

@[simp] theorem State.withStaging_params (s : State) (b : Profile) : (s.withStaging b).params = s.params := by
  unfold State.params State.activeBank State.withStaging TableBlock.withStaging
  cases s.table.active <;> simp

@[simp] theorem State.lookupAngle_params (s : State) (f : Frame) : (s.lookupAngle f).params = s.params := by
  unfold State.lookupAngle
  split <;> rfl

@[simp] theorem State.inputStep_params (s : State) (f : Frame) : (s.inputStep f).params = s.params := by
  simp [State.inputStep]

@[simp] theorem State.stageMotion_params (s : State) (f : Frame) : (s.stageMotion f).params = s.params := by
  simp [State.stageMotion]

/-- A service operation leaves the active bank (R148, R153). -/
theorem State.operate_params (s : State) (op : Byte) (item : Word16) (p : Payload) :
    (s.operate op item p).state.params = s.params := by
  unfold State.operate State.opReadParam State.opWriteParam State.opReadEntry State.opWriteEntry State.opTrimEntries
    State.opStageFromActive State.opCommit State.opSetEvents State.opReadLive State.opLineReset
  (repeat' split) <;> first | rfl | exact State.withStaging_params _ _

/-- Of the line a service operation changes at most the waiting line reset (R172). -/
theorem State.operate_line (s : State) (op : Byte) (item : Word16) (p : Payload) :
    ∃ w, (s.operate op item p).state.line = { s.line with waitingReset := w } := by
  unfold State.operate State.opReadParam State.opWriteParam State.opReadEntry State.opWriteEntry State.opTrimEntries
    State.opStageFromActive State.opCommit State.opSetEvents State.opReadLive State.opLineReset
  (repeat' split) <;> exact ⟨_, rfl⟩

/-- All that handling a record does to the state: nothing, or the operation it asks for (R160). -/
theorem State.serve_state_cases (s : State) (r : ServiceRecord) :
    (s.serve r).1 = s ∨ (s.serve r).1 = (s.operate r.op r.item r.payload).state := by
  unfold State.serve
  (repeat' split) <;> simp

theorem State.serve_params (s : State) (r : ServiceRecord) : (s.serve r).1.params = s.params := by
  obtain e | e := s.serve_state_cases r <;> rw [e]
  exact s.operate_params _ _ _

theorem State.serve_line (s : State) (r : ServiceRecord) :
    ∃ w, (s.serve r).1.line = { s.line with waitingReset := w } := by
  obtain e | e := s.serve_state_cases r <;> rw [e]
  · exact ⟨_, rfl⟩
  · exact s.operate_line _ _ _

/-! ## Stage 8 on any frame -/

/-- All that stage 8 does to the state beside its note of the record: a record handled, or none there (R34). -/
theorem State.stageService_state_cases (s : State) (f : Frame) :
    ∃ record, (s.stageService f).1 = (s.serve (frameRecord f)).1.withSlot
        { (s.serve (frameRecord f)).1.slot with record := record }
      ∨ (s.stageService f).1 = s.withSlot { s.slot with record := record } := by
  unfold State.stageService
  split
  · exact ⟨_, .inl rfl⟩
  · exact ⟨_, .inr rfl⟩

theorem State.stageService_frame (s : State) (f : Frame) :
    State.SameOutside [.line, .slot, .table, .events] s (s.stageService f).1 := by
  have note (a : State) (x : SlotBlock) : State.SameOutside [.line, .slot, .table, .events] a (a.withSlot x) :=
    fun b hb => by cases b <;> first | rfl | simp at hb
  obtain ⟨record, e | e⟩ := s.stageService_state_cases f <;> rw [e]
  · exact (s.serve_frame _).trans (note _ _)
  · exact note _ _

theorem State.stageService_params (s : State) (f : Frame) : (s.stageService f).1.params = s.params := by
  obtain ⟨record, e | e⟩ := s.stageService_state_cases f <;> rw [e]
  · exact s.serve_params _
  · rfl

theorem State.stageService_line (s : State) (f : Frame) :
    ∃ w, (s.stageService f).1.line = { s.line with waitingReset := w } := by
  obtain ⟨record, e | e⟩ := s.stageService_state_cases f <;> rw [e]
  · exact s.serve_line _
  · exact ⟨_, rfl⟩

/-! ## The line through the stages (R12, R19) -/

/-- The return check writes the return record and the miss count at MID, and nothing at END (R16, R19). -/
theorem State.returnCheck_line_of_mid {s : State} (hm : s.power.role = .mid) (seq : Word16) :
    ∃ m, (s.returnCheck seq).line =
      { s.line with returnRec := some { seq := seq, returned := false }, missCount := m } := by
  by_cases h : ∃ r, s.line.returnRec = some r ∧ r.returned = false
  · obtain ⟨r, hr, hn⟩ := h
    exact ⟨_, by rw [State.returnCheck_of_miss hm hr hn, State.withLine_line, State.countMiss_line]⟩
  · have returned : s.line.returnRec = none ∨ ∃ r, s.line.returnRec = some r ∧ r.returned = true := by
      cases hr : s.line.returnRec with
      | none => exact .inl rfl
      | some r => exact .inr ⟨r, rfl, by simpa using fun hn => h ⟨r, hr, hn⟩⟩
    exact ⟨_, by rw [State.returnCheck_of_returned hm returned]; rfl⟩

theorem State.takeOutbound_line (s : State) (f : Frame) :
    (s.takeOutbound f).line = ((s.withLine { s.line with lastOut := frameSeq f }).returnCheck (frameSeq f)).line := by
  unfold State.takeOutbound
  simp only
  split <;> simp

theorem State.takeOutbound_line_of_mid {s : State} (hm : s.power.role = .mid) (f : Frame) :
    ∃ m, (s.takeOutbound f).line = { s.line with
      lastOut := frameSeq f, returnRec := some { seq := frameSeq f, returned := false }, missCount := m } := by
  obtain ⟨m, e⟩ := State.returnCheck_line_of_mid (s := s.withLine { s.line with lastOut := frameSeq f }) hm (frameSeq f)
  exact ⟨m, by rw [State.takeOutbound_line, e]; rfl⟩

theorem State.takeOutbound_line_of_endNode {s : State} (he : s.power.role = .endNode) (f : Frame) :
    (s.takeOutbound f).line = { s.line with lastOut := frameSeq f } := by
  simp [State.takeOutbound_line, State.returnCheck, State.isEnd_of_endNode he]

/-- Of the line a swap changes at most a MID node's miss count (R19). -/
theorem State.stageSwap_line (s : State) (f : Frame) :
    ∃ m, (s.stageSwap f).line = { s.line with missCount := m } ∧ (s.power.role = .endNode → m = s.line.missCount) := by
  have limit (a : State) : ∃ m, a.lineAtSwap.line = { a.line with missCount := m }
      ∧ (a.power.role = .endNode → m = a.line.missCount) := by
    unfold State.lineAtSwap
    split
    · next h => exact ⟨a.params.returnMissLimit, by simp, fun he => by simp [State.isEnd_of_endNode he] at h⟩
    · exact ⟨_, rfl, fun _ => rfl⟩
  unfold State.stageSwap
  simp only [State.lampAtFrame_line]
  split
  · obtain ⟨m, e, hm⟩ := limit (((s.swapBanks.jointAtSwap).wheelAtSwap s.params).driveAtSwap s.params)
    exact ⟨m, by simpa [State.profileSwap] using e, by simpa using hm⟩
  · exact ⟨_, rfl, fun _ => rfl⟩

theorem State.throughMotion_line (s : State) (f : Frame) :
    (s.throughMotion f).line = ((s.takeOutbound f).stageSwap f).line := by
  simp [State.throughMotion]

theorem State.throughMotion_line_of_mid {s : State} (hm : s.power.role = .mid) (f : Frame) :
    ∃ m, (s.throughMotion f).line = { s.line with
      lastOut := frameSeq f, returnRec := some { seq := frameSeq f, returned := false }, missCount := m } := by
  obtain ⟨m, e, -⟩ := (s.takeOutbound f).stageSwap_line f
  obtain ⟨m', e'⟩ := State.takeOutbound_line_of_mid hm f
  exact ⟨m, by rw [State.throughMotion_line, e, e']⟩

theorem State.throughMotion_line_of_endNode {s : State} (he : s.power.role = .endNode) (f : Frame) :
    (s.throughMotion f).line = { s.line with lastOut := frameSeq f } := by
  obtain ⟨m, e, h⟩ := (s.takeOutbound f).stageSwap_line f
  have taken := State.takeOutbound_line_of_endNode he f
  rw [State.throughMotion_line, e, h (by simpa using he), taken]

/-! ## The lamp (R187) and the records -/

theorem State.throughMotion_params (s : State) (f : Frame) :
    (s.throughMotion f).params = ((s.takeOutbound f).stageSwap f).params := by
  simp [State.throughMotion]

theorem State.throughMotion_lamp (s : State) (f : Frame) : (s.throughMotion f).lamp =
    { stepCount := frameSeq f, stepTimer := some (Timer.start (s.throughMotion f).params.cyclePeriod) } := by
  rw [State.throughMotion_params]
  simp [State.throughMotion, State.stageSwap, State.lampAtFrame]

theorem State.throughMotion_records (s : State) (f : Frame) :
    (s.throughMotion f).ctrl.machineRun = frameMachineRun f
      ∧ (s.throughMotion f).drive.dirRecord = frameDirection f :=
  State.stageMotion_records _ _

theorem State.stageChain_records (s : State) (f : Frame) :
    (s.stageChain f).ctrl.machineRun = s.ctrl.machineRun
      ∧ (s.stageChain f).drive.dirRecord = s.drive.dirRecord := by
  unfold State.stageChain
  split <;> simp

/-! ## The end of the stages: the stall test, END's turn-around, DRDY (R16, R37, R109, R125) -/

theorem State.stallTest_of_below {s : State} (h : s.wheel.frozen = true ∨ s.wheel.counter < s.stallThreshold) :
    s.stallTest = s := by
  unfold State.stallTest
  rw [if_neg fun ⟨hf, hc⟩ => by
    obtain h | h := h
    · simp [h] at hf
    · omega]

theorem State.stallTest_of_reached {s : State} (hf : s.wheel.frozen = false)
    (hc : s.stallThreshold ≤ s.wheel.counter) : s.stallTest = s.raiseStall := by
  unfold State.stallTest
  rw [if_pos ⟨hf, hc⟩]

/-- STALL with the freeze, before the trip it may request (R110). -/
def State.stalled (s : State) : State := (s.withWheel { s.wheel with frozen := true }).raise .stall

/-- All that STALL does: the freeze and the event, the trip when it is enabled, and the end of a jog (R110, R137). -/
theorem State.raiseStall_cases (s : State) :
    let x := s.stalled.tripRequestIf s.params.tripEnables.stall .stall
    s.raiseStall = x
      ∨ x.ctrl.node = .manual ∧ s.raiseStall = (x.withDrive { x.drive with lockout := true }).endJog := by
  unfold State.raiseStall State.stalled
  simp only [State.raise_params, State.withWheel_params]
  split
  · next h => exact .inr ⟨h.1, rfl⟩
  · exact .inl rfl

theorem State.endJog_onlyRaises (s : State) : State.OnlyRaises s s.endJog := by
  unfold State.endJog
  split
  · exact s.enterStopping_onlyRaises
  · exact .refl s

theorem State.tripRequestIf_onlyRaises (s : State) (b : Bool) (cause : TripCause) :
    State.OnlyRaises s (s.tripRequestIf b cause) := by
  unfold State.tripRequestIf
  split
  · exact s.tripRequest_onlyRaises cause
  · exact .refl s

/-- After its freeze and its event, STALL only raises events. -/
theorem State.raiseStall_onlyRaises_stalled (s : State) : State.OnlyRaises s.stalled s.raiseStall := by
  have trip := s.stalled.tripRequestIf_onlyRaises s.params.tripEnables.stall .stall
  obtain e | ⟨-, e⟩ := s.raiseStall_cases <;> rw [e]
  · exact trip
  · exact (trip.andThen rfl).trans (State.endJog_onlyRaises _)

theorem State.stalled_onlyRaises (s : State) : State.OnlyRaises s s.stalled :=
  State.raise_onlyRaises (s.withWheel _) .stall

theorem State.raiseStall_hasEvent (s : State) : hasEvent s.raiseStall.events.flags .stall = true :=
  s.raiseStall_onlyRaises_stalled.2.2 _ (State.hasEvent_raise_self _ _)

theorem State.raiseStall_wheel (s : State) : s.raiseStall.wheel = { s.wheel with frozen := true } := by
  obtain e | ⟨-, e⟩ := s.raiseStall_cases <;> simp [e, State.stalled]

theorem State.stallTest_onlyRaises (s : State) : State.OnlyRaises s s.stallTest := by
  unfold State.stallTest
  split
  · exact s.stalled_onlyRaises.trans s.raiseStall_onlyRaises_stalled
  · exact .refl s

theorem State.stallTest_records (s : State) :
    s.stallTest.ctrl.machineRun = s.ctrl.machineRun ∧ s.stallTest.drive.dirRecord = s.drive.dirRecord := by
  unfold State.stallTest
  split <;> simp

/-- A trip request taken in a serving state with HAND inactive leaves the node TRIPPED with a new record (R51, R52). -/
theorem State.tripRequest_of_serving {s : State} {cause : TripCause} (hs : NodeState.serving s.ctrl.node = true)
    (hand : s.handActive = false) :
    (s.tripRequest cause).ctrl.node = .tripped ∧ (s.tripRequest cause).ctrl.trip = some (s.newTrip cause) := by
  have stays : ((s.withTrip (some (s.newTrip cause))).moveTo .tripped).handActive = false := by
    rw [State.handActive_congr (s := s) (by simp) (by simp), hand]
  have taken : s.tripRequest cause = ((s.withTrip (some (s.newTrip cause))).moveTo .tripped).moveTo
      ((s.withTrip (some (s.newTrip cause))).moveTo .tripped).evaluated := by
    obtain h | h | h := (NodeState.serving_iff _).1 hs <;> simp [State.tripRequest, h]
  have evaluated : ((s.withTrip (some (s.newTrip cause))).moveTo .tripped).evaluated = .tripped := by
    simp [State.evaluated, stays]
  rw [taken, evaluated]
  simp [State.withTrip]

/-- STALL trips a serving node when it is trip-enabled (R110). -/
theorem State.raiseStall_trips {s : State} (henable : s.params.tripEnables.stall = true) (hand : s.handActive = false)
    (hs : NodeState.serving s.ctrl.node = true) :
    s.raiseStall.ctrl.node = .tripped
      ∧ s.raiseStall.ctrl.trip = some { cause := .stall, seq := s.line.lastOut, extra := 0 } := by
  obtain ⟨node, trip⟩ := State.tripRequest_of_serving (s := s.stalled) (cause := .stall) hs hand
  have request : s.stalled.tripRequestIf s.params.tripEnables.stall .stall = s.stalled.tripRequest .stall := by
    rw [State.tripRequestIf, if_pos henable]
  obtain e | ⟨manual, -⟩ := s.raiseStall_cases
  · rw [e, request]
    exact ⟨node, trip⟩
  · rw [request, node] at manual
    exact absurd manual (by simp)

/-- A change of the hold-cause set leaves a TRIPPED node with HAND inactive where it is (R44, R50). -/
theorem State.setHolds_of_tripped {s : State} {h : HoldCauses} (ht : s.ctrl.node = .tripped)
    (hand : s.handActive = false) : s.setHolds h = s.withHolds h := by
  by_cases hne : h = s.ctrl.holds
  · subst hne
    exact State.setHolds_same rfl
  · rw [State.setHolds_of_ne hne]
    exact State.evaluate_of_tripped (s := s.withHolds h) ht hand

theorem State.turnAround_slot (s : State) (ceiling : Nat) (chainOpen : Bool) :
    (s.turnAround ceiling chainOpen).slot = { s.slot with ceiling := ceiling, chainOpen := chainOpen } := by
  unfold State.turnAround
  split <;> simp

/-- CHAIN follows the turned frame (R39). -/
theorem State.turnAround_holds (s : State) (ceiling : Nat) (chainOpen : Bool) :
    (s.turnAround ceiling chainOpen).ctrl.holds = { s.ctrl.holds with chain := chainOpen } := by
  cases chainOpen
  · simp [State.turnAround, State.releaseChain_holds]
  · simp [State.turnAround, State.enterChain_holds]

theorem State.turnAround_onlyRaises (s : State) (ceiling : Nat) (chainOpen : Bool) :
    State.OnlyRaises s (s.turnAround ceiling chainOpen) := by
  unfold State.turnAround
  split
  · exact State.OnlyRaises.trans (t := s.withSlot _) (.of_events rfl) (State.enterChain_onlyRaises _ _)
  · exact State.OnlyRaises.trans (t := s.withSlot _) (.of_events rfl) (State.setHolds_onlyRaises _ _)

theorem State.turnAround_records (s : State) (ceiling : Nat) (chainOpen : Bool) :
    (s.turnAround ceiling chainOpen).ctrl.machineRun = s.ctrl.machineRun
      ∧ (s.turnAround ceiling chainOpen).drive.dirRecord = s.drive.dirRecord := by
  unfold State.turnAround
  split <;> simp [State.releaseChain]

/-- The turn-around leaves a TRIPPED node with HAND inactive as it is. -/
theorem State.turnAround_of_tripped {s : State} (ht : s.ctrl.node = .tripped) (hand : s.handActive = false)
    (ceiling : Nat) (chainOpen : Bool) : (s.turnAround ceiling chainOpen).ctrl.node = .tripped
      ∧ (s.turnAround ceiling chainOpen).ctrl.trip = s.ctrl.trip := by
  have set (a : State) (h : HoldCauses) (hc : a.ctrl = s.ctrl) (htab : a.table = s.table) (hin : a.inputs = s.inputs) :
      (a.setHolds h).ctrl.node = .tripped ∧ (a.setHolds h).ctrl.trip = s.ctrl.trip := by
    rw [State.setHolds_of_tripped (by rw [hc, ht]) (by rw [State.handActive_congr htab hin, hand])]
    exact ⟨by rw [State.withHolds_node, hc, ht], by rw [← hc]; rfl⟩
  unfold State.turnAround State.enterChain State.releaseChain
  simp only
  (repeat' split) <;> first | exact set _ _ (by simp) (by simp) (by simp) | exact ⟨by simpa using ht, by simp⟩

/-- What follows stage 8, by the role: the stall test, END's latch of what it sends, and DRDY taken (R37, R109, R125).
-/
def State.endStages (s : State) (ceiling : Nat) (chainOpen : Bool) : State :=
  if s.isEnd then (s.stallTest.turnAround ceiling chainOpen).takeReady else s.stallTest.takeReady

theorem State.endStages_frame (s : State) (ceiling : Nat) (chainOpen : Bool) :
    State.SameOutside [.slot, .ctrl, .demand, .wheel, .drive, .events] s (s.endStages ceiling chainOpen) := by
  have stall := s.stallTest_frame.mono (large := [.slot, .ctrl, .demand, .wheel, .drive, .events]) (by decide)
  have ready (a : State) :=
    a.takeReady_frame.mono (large := [.slot, .ctrl, .demand, .wheel, .drive, .events]) (by decide)
  unfold State.endStages
  split
  · exact (stall.trans ((s.stallTest.turnAround_frame ceiling chainOpen).mono (by decide))).trans (ready _)
  · exact stall.trans (ready _)

theorem State.endStages_onlyRaises (s : State) (ceiling : Nat) (chainOpen : Bool) :
    State.OnlyRaises s (s.endStages ceiling chainOpen) := by
  unfold State.endStages
  split
  · exact (s.stallTest_onlyRaises.trans (s.stallTest.turnAround_onlyRaises ceiling chainOpen)).andThen (by simp)
  · exact s.stallTest_onlyRaises.andThen (by simp)

theorem State.endStages_wheel (s : State) (ceiling : Nat) (chainOpen : Bool) :
    (s.endStages ceiling chainOpen).wheel = s.stallTest.wheel := by
  unfold State.endStages
  split <;> simp

theorem State.endStages_records (s : State) (ceiling : Nat) (chainOpen : Bool) :
    (s.endStages ceiling chainOpen).ctrl.machineRun = s.ctrl.machineRun
      ∧ (s.endStages ceiling chainOpen).drive.dirRecord = s.drive.dirRecord := by
  obtain ⟨mode, dir⟩ := s.stallTest_records
  obtain ⟨mode', dir'⟩ := s.stallTest.turnAround_records ceiling chainOpen
  unfold State.endStages
  split <;> simp [mode, dir, mode', dir']

/-- Of the Slot Engine the end of the stages touches END's latch alone. -/
theorem State.endStages_slot (s : State) (ceiling : Nat) (chainOpen : Bool) :
    (s.endStages ceiling chainOpen).slot.record = s.slot.record
      ∧ (s.endStages ceiling chainOpen).slot.pendingCommit = s.slot.pendingCommit := by
  unfold State.endStages
  split <;> simp [State.turnAround_slot]

theorem State.endStages_waits (s : State) (ceiling : Nat) (chainOpen : Bool)
    (h : (s.endStages ceiling chainOpen).drive.st = .starting) :
    (s.endStages ceiling chainOpen).drdyActive = false := by
  unfold State.endStages at h ⊢
  split at h
  · next he =>
    rw [if_pos he]
    exact State.takeReady_waits _ h
  · next he =>
    rw [if_neg he]
    exact State.takeReady_waits _ h

/-- The stall test's event outlasts the end of the stages. -/
theorem State.endStages_hasEvent_of_stallTest (s : State) (ceiling : Nat) (chainOpen : Bool) {e : Event}
    (h : hasEvent s.stallTest.events.flags e = true) :
    hasEvent (s.endStages ceiling chainOpen).events.flags e = true := by
  unfold State.endStages
  split
  · rw [State.takeReady_events]
    exact (s.stallTest.turnAround_onlyRaises _ _).2.2 _ h
  · rw [State.takeReady_events]
    exact h

/-- A node that the stall test trips is TRIPPED when the stages are over. -/
theorem State.endStages_of_tripped {s : State} (ht : s.stallTest.ctrl.node = .tripped) (hand : s.handActive = false)
    (ceiling : Nat) (chainOpen : Bool) : (s.endStages ceiling chainOpen).ctrl.node = .tripped
      ∧ (s.endStages ceiling chainOpen).ctrl.trip = s.stallTest.ctrl.trip := by
  unfold State.endStages
  split
  · rw [State.takeReady_ctrl]
    exact State.turnAround_of_tripped ht (by rw [State.handActive_congr (s := s) (by simp) (by simp), hand]) _ _
  · rw [State.takeReady_ctrl]
    exact ⟨ht, rfl⟩

/-! ## The state after the processing -/

/-- The state that stage 8 leaves, for any frame. -/
def State.afterService (s : State) (f : Frame) : State :=
  ((s.throughChain f).stageService (s.frameThroughChain f)).1

theorem State.afterService_eq {s : State} {f : Frame} (h : FrameSized f) : s.afterService f = s.throughService f := by
  rw [State.afterService, State.stageService_frameThroughChain h]

@[simp] theorem State.afterService_power (s : State) (f : Frame) : (s.afterService f).power = s.power := by
  rw [← s.throughChain_power f]
  exact State.stageService_frame _ _ .power (by decide)

/-- Between the stages 5 and 8 nothing touches the lamp, the queue, the records or, but for a line reset ordered, the
line. -/
theorem State.afterService_kept (s : State) (f : Frame) :
    (s.afterService f).lamp = (s.throughMotion f).lamp ∧ (s.afterService f).pending = s.pending
      ∧ (s.afterService f).params = (s.throughMotion f).params
      ∧ (s.afterService f).ctrl.machineRun = frameMachineRun f
      ∧ (s.afterService f).drive.dirRecord = frameDirection f
      ∧ ∃ w, (s.afterService f).line = { (s.throughMotion f).line with waitingReset := w } := by
  have same := (s.throughChain f).stageService_frame (s.frameThroughChain f)
  have lamp : (s.afterService f).lamp = (s.throughChain f).lamp := same .lamp (by decide)
  have pending : (s.afterService f).pending = (s.throughChain f).pending := same .pending (by decide)
  have ctrl : (s.afterService f).ctrl = (s.throughChain f).ctrl := same .ctrl (by decide)
  have drive : (s.afterService f).drive = (s.throughChain f).drive := same .drive (by decide)
  have params : (s.afterService f).params = (s.throughChain f).params := State.stageService_params _ _
  obtain ⟨w, line⟩ := (s.throughChain f).stageService_line (s.frameThroughChain f)
  obtain ⟨mode, dir⟩ := (s.throughMotion f).stageChain_records f
  obtain ⟨mode', dir'⟩ := s.throughMotion_records f
  refine ⟨by simp [lamp, State.throughChain], by simp [pending, State.throughChain],
    by simp [params, State.throughChain], by rw [ctrl, State.throughChain, mode, mode'],
    by rw [drive, State.throughChain, dir, dir'], w, ?_⟩
  rw [State.afterService, line, State.throughChain, State.stageChain_line]

theorem State.processFrame_fst (s : State) (f : Frame) :
    (s.processFrame f).1 = (s.afterService f).endStages ((s.throughMotion f).outgoingCeiling f)
      (frameChainOpen (s.frameThroughChain f)) := by
  have role : (s.afterService f).isEnd = s.isEnd := State.isEnd_congr (s.afterService_power f)
  unfold State.processFrame State.endStages
  rw [role]
  split <;> rfl

/-- A block that the end of the stages leaves alone is the one stage 8 left. -/
theorem State.processFrame_frame (s : State) (f : Frame) :
    State.SameOutside [.slot, .ctrl, .demand, .wheel, .drive, .events] (s.afterService f) (s.processFrame f).1 := by
  rw [State.processFrame_fst]
  exact State.endStages_frame _ _ _

/-! ## O18 -/

/-- Settles O18: END's latch is the last to write ceiling, chain and CHAIN, and writes what the sent frame carries. -/
theorem endTurnsAndLatches : Obligations.EndTurnsAndLatches := by
  intro f s h he
  have role : (s.afterService f).isEnd = true := by
    rw [State.isEnd_congr (s.afterService_power f), State.isEnd_of_endNode he]
  have final : (s.processFrame f).1 = ((s.afterService f).stallTest.turnAround ((s.throughMotion f).outgoingCeiling f)
      (frameChainOpen (s.frameThroughChain f))).takeReady := by
    rw [State.processFrame_fst, State.endStages, if_pos role]
  rw [final, State.takeReady_slot, State.takeReady_ctrl, State.turnAround_slot, State.turnAround_holds,
    State.frameCeiling_processFrame h, State.frameChainOpen_processFrame h]
  refine ⟨?_, rfl, rfl, rfl⟩
  rw [frameInbound, State.control_processFrame h, State.isEnd_of_endNode he]
  simp

/-! ## The transmit buffer of the processing (R12) -/

theorem State.withOutboundTx_frame (s : State) (x : TxBuffer) : State.SameOutside [.line] s (s.withOutboundTx x) := by
  intro b hb
  unfold State.withOutboundTx
  split <;> cases b <;> first | rfl | simp at hb

theorem State.withOutboundTx_of_mid {s : State} (hm : s.power.role = .mid) (x : TxBuffer) :
    s.withOutboundTx x = s.withLine { s.line with txOuter := x } := by
  simp [State.withOutboundTx, State.isEnd_of_mid hm]

theorem State.withOutboundTx_of_endNode {s : State} (he : s.power.role = .endNode) (x : TxBuffer) :
    s.withOutboundTx x = s.withLine { s.line with txInner := x } := by
  simp [State.withOutboundTx, State.isEnd_of_endNode he]

theorem State.withOutboundTx_waitingReset (s : State) (x : TxBuffer) :
    (s.withOutboundTx x).line.waitingReset = s.line.waitingReset := by
  unfold State.withOutboundTx
  split <;> rfl

theorem exec_outboundProcessing_of_taken {s : State} {f : Frame} (hr : s.released = true)
    (ht : s.outboundTx = .taken f) :
    exec .outboundProcessing s = .next ((s.processFrame f).1.withOutboundTx (.sending (s.processFrame f).2)) := by
  rw [show exec .outboundProcessing s = execOutboundProcessing s from rfl, execOutboundProcessing, if_pos hr, ht]

/-! ## Stage 8 and the service commands (R162, R163) -/

/-- Each of the ten commands handles the record of its operation (R163). -/
theorem exec_serviceCommands {op : Byte} {c : Instr} {q : Request} (h : (op, c) ∈ serviceCommands q) (s : State) :
    exec c s = .next (s.serveCommand op q) := by
  simp only [serviceCommands, List.mem_cons, List.not_mem_nil, or_false, Prod.mk.injEq] at h
  obtain ⟨rfl, rfl⟩ | ⟨rfl, rfl⟩ | ⟨rfl, rfl⟩ | ⟨rfl, rfl⟩ | ⟨rfl, rfl⟩ | ⟨rfl, rfl⟩ | ⟨rfl, rfl⟩ | ⟨rfl, rfl⟩
    | ⟨rfl, rfl⟩ | ⟨rfl, rfl⟩ := h <;> rfl

theorem exec_unknownOp {op : Byte} (h : ¬inRange 1 10 op.toNat) (q : Request) (s : State) :
    exec (.unknownOp op q) s = .next (s.serveCommand op q) := by
  have unknown : knownOp op = false := by simpa [knownOp, inRange] using h
  rw [show exec (.unknownOp op q) s = execUnknownOp op q s from rfl, execUnknownOp, unknown]
  rfl

/-- A record that a frame sends is the record its command handles (R8). -/
theorem recordOf_requestOf {r : ServiceRecord} (h : r.result = 0#8) : recordOf r.op (requestOf r) = r := by
  cases r
  simp only at h
  subst h
  rfl

/-- Where stage 8 can reach the node and no swap is pending, a command does what stage 8 does (log 8). -/
theorem State.serveCommand_eq_throughService {s : State} {f : Frame} (hr : s.released = true)
    (hs : frameService f = true) (hw : s.line.waitingReset = none)
    (hp : (s.throughChain f).table.pendingSwap = false) (hz : (frameRecord f).result = 0#8) :
    (s.throughChain f).serveCommand (frameRecord f).op (requestOf (frameRecord f)) = s.throughService f := by
  have line : (s.throughChain f).line.waitingReset = none := by
    rw [State.throughChain, State.stageChain_line]
    cases role : s.power.role with
    | mid => obtain ⟨m, e⟩ := State.throughMotion_line_of_mid role f; rw [e]; exact hw
    | endNode => rw [State.throughMotion_line_of_endNode role f]; exact hw
  have runs : (s.throughChain f).stagesRun = true :=
    State.stagesRun_of (by rw [State.released_congr (s.throughChain_power f), hr]) line
  rw [State.serveCommand, if_pos ⟨runs, by simp [hp]⟩, recordOf_requestOf hz, State.throughService, if_pos hs]

/-! ## O13 -/

theorem State.enterRunning_eq (s : State) : s.enterRunning = s.withDrive { s.drive with
    st := .running
    phase := none
    rateRef := if s.params.driveMode = .duty then 0
      else if s.drive.jog = true then s.params.jogDemand else s.demand.d } := by
  unfold State.enterRunning
  cases s.params.driveMode <;> rfl

/-- The line after the processing: what the taking writes, the miss count and a line reset ordered by the record. -/
theorem State.processFrame_line_of_mid {s : State} (hm : s.power.role = .mid) (f : Frame) :
    ∃ m w, (s.processFrame f).1.line = { s.line with
      lastOut := frameSeq f, returnRec := some { seq := frameSeq f, returned := false }, missCount := m
      waitingReset := w } := by
  obtain ⟨m, e⟩ := State.throughMotion_line_of_mid hm f
  obtain ⟨-, -, -, -, -, w, e'⟩ := s.afterService_kept f
  refine ⟨m, w, ?_⟩
  rw [show (s.processFrame f).1.line = (s.afterService f).line from s.processFrame_frame f .line (by decide), e', e]

theorem State.processFrame_line_of_endNode {s : State} (he : s.power.role = .endNode) (f : Frame) :
    ∃ w, (s.processFrame f).1.line = { s.line with lastOut := frameSeq f, waitingReset := w } := by
  have e := State.throughMotion_line_of_endNode he f
  obtain ⟨-, -, -, -, -, w, e'⟩ := s.afterService_kept f
  refine ⟨w, ?_⟩
  rw [show (s.processFrame f).1.line = (s.afterService f).line from s.processFrame_frame f .line (by decide), e', e]

/-- The sequence of the frame under processing is the last outbound sequence in stage 8 and after (R52). -/
theorem State.afterService_lastOut (s : State) (f : Frame) : (s.afterService f).line.lastOut = frameSeq f := by
  obtain ⟨-, -, -, -, -, w, e⟩ := s.afterService_kept f
  rw [e]
  cases role : s.power.role with
  | mid => obtain ⟨m, e'⟩ := State.throughMotion_line_of_mid role f; rw [e']
  | endNode => rw [State.throughMotion_line_of_endNode role f]

/-- The end of the stages when no stall is found: the Wheel Monitor stays, and a MID node ends in the state of stage 8
but for DRDY (R109, R125). -/
theorem State.endStages_of_below {s : State} (ceiling : Nat) (chainOpen : Bool)
    (h : s.wheel.frozen = true ∨ s.wheel.counter < s.stallThreshold) :
    (s.endStages ceiling chainOpen).wheel = s.wheel
      ∧ (s.power.role = .mid → s.endStages ceiling chainOpen = s.takeReady) := by
  refine ⟨by rw [State.endStages_wheel, State.stallTest_of_below h], fun hm => ?_⟩
  rw [State.endStages, if_neg (by simp [State.isEnd_of_mid hm]), State.stallTest_of_below h]

/-- The end of the stages when a stall is found (R109, R110). -/
theorem State.endStages_of_reached {s : State} (ceiling : Nat) (chainOpen : Bool) (hf : s.wheel.frozen = false)
    (hc : s.stallThreshold ≤ s.wheel.counter) :
    (s.endStages ceiling chainOpen).wheel = { s.wheel with frozen := true }
      ∧ hasEvent (s.endStages ceiling chainOpen).events.flags .stall = true
      ∧ (s.params.tripEnables.stall = true → s.handActive = false →
          (s.ctrl.node = .idle ∨ s.ctrl.node = .run ∨ s.ctrl.node = .hold) →
          (s.endStages ceiling chainOpen).ctrl.node = .tripped
            ∧ (s.endStages ceiling chainOpen).ctrl.trip =
              some { cause := .stall, seq := s.line.lastOut, extra := 0 }) := by
  have stall := State.stallTest_of_reached hf hc
  refine ⟨by rw [State.endStages_wheel, stall, State.raiseStall_wheel],
    State.endStages_hasEvent_of_stallTest _ _ _ (by rw [stall, State.raiseStall_hasEvent]), fun he hand hs => ?_⟩
  obtain ⟨node, trip⟩ := State.raiseStall_trips he hand ((NodeState.serving_iff _).2 hs)
  rw [← stall] at node trip
  rw [← trip]
  exact State.endStages_of_tripped node hand _ _

/-- The state after OUTBOUND_PROCESSING of a taken frame: the processing, and its frame put into the transmit buffer. -/
def State.processed (s : State) (f : Frame) : State :=
  (s.processFrame f).1.withOutboundTx (.sending (s.processFrame f).2)

theorem State.processed_frame (s : State) (f : Frame) :
    State.SameOutside [.line] (s.processFrame f).1 (s.processed f) :=
  State.withOutboundTx_frame _ _

theorem State.processed_params (s : State) (f : Frame) : (s.processed f).params = (s.processFrame f).1.params :=
  State.params_congr (s.processed_frame f .table (by decide))

@[simp] theorem State.processFrame_power (s : State) (f : Frame) : (s.processFrame f).1.power = s.power := by
  rw [show (s.processFrame f).1.power = (s.afterService f).power from s.processFrame_frame f .power (by decide),
    State.afterService_power]

/-- The line of a MID node after OUTBOUND_PROCESSING (R12, R19). -/
theorem State.processed_line_of_mid {s : State} (hm : s.power.role = .mid) (f : Frame) :
    ∃ m w, (s.processed f).line = { s.line with
      txOuter := .sending (s.processFrame f).2, lastOut := frameSeq f
      returnRec := some { seq := frameSeq f, returned := false }, missCount := m, waitingReset := w } := by
  obtain ⟨m, w, e⟩ := State.processFrame_line_of_mid hm f
  refine ⟨m, w, ?_⟩
  rw [State.processed, State.withOutboundTx_of_mid (by simpa using hm), State.withLine_line, e]

/-- The line of END after OUTBOUND_PROCESSING (R12, R16). -/
theorem State.processed_line_of_endNode {s : State} (he : s.power.role = .endNode) (f : Frame) :
    ∃ w, (s.processed f).line = { s.line with
      txInner := .sending (s.processFrame f).2, lastOut := frameSeq f, waitingReset := w } := by
  obtain ⟨w, e⟩ := State.processFrame_line_of_endNode he f
  refine ⟨w, ?_⟩
  rw [State.processed, State.withOutboundTx_of_endNode (by simpa using he), State.withLine_line, e]

/-- The parts of the line that a processing never touches, and the sequence it notes. -/
theorem State.processed_line (s : State) (f : Frame) :
    (s.processed f).line.lastOut = frameSeq f ∧ (s.processed f).line.rxInner = s.line.rxInner
      ∧ (s.processed f).line.rxOuter = s.line.rxOuter ∧ (s.processed f).line.frameTimer = s.line.frameTimer := by
  cases role : s.power.role with
  | mid => obtain ⟨m, w, e⟩ := State.processed_line_of_mid role f; rw [e]; exact ⟨rfl, rfl, rfl, rfl⟩
  | endNode => obtain ⟨w, e⟩ := State.processed_line_of_endNode role f; rw [e]; exact ⟨rfl, rfl, rfl, rfl⟩

/-- The lamp, the records, the straps and the queue after OUTBOUND_PROCESSING (R44, R122, R187). -/
theorem State.processed_records (s : State) (f : Frame) :
    (s.processed f).lamp =
        { stepCount := frameSeq f, stepTimer := some (Timer.start (s.processed f).params.cyclePeriod) }
      ∧ (s.processed f).ctrl.machineRun = frameMachineRun f ∧ (s.processed f).drive.dirRecord = frameDirection f
      ∧ (s.processed f).power = s.power ∧ (s.processed f).pending = s.pending := by
  obtain ⟨lamp, pending, params, mode, dir, -⟩ := s.afterService_kept f
  have out := s.processed_frame f
  have stages := s.processFrame_frame f
  obtain ⟨mode', dir'⟩ := (s.afterService f).endStages_records ((s.throughMotion f).outgoingCeiling f)
    (frameChainOpen (s.frameThroughChain f))
  rw [← State.processFrame_fst] at mode' dir'
  have params' : (s.processed f).params = (s.throughMotion f).params := by
    rw [State.processed_params, State.params_congr (stages .table (by decide)), params]
  refine ⟨?_, ?_, ?_, ?_, ?_⟩
  · rw [params', ← State.throughMotion_lamp, ← lamp]
    exact (out .lamp (by decide)).trans (stages .lamp (by decide))
  · rw [show (s.processed f).ctrl = _ from out .ctrl (by decide), mode', mode]
  · rw [show (s.processed f).drive = _ from out .drive (by decide), dir', dir]
  · exact (out .power (by decide)).trans (s.processFrame_power f)
  · exact ((out .pending (by decide)).trans (stages .pending (by decide))).trans pending

/-- How the stages of a frame that R5 allows end, from the state that stage 8 left. -/
theorem State.processFrame_fst_of_sized {s : State} {f : Frame} (h : FrameSized f) :
    (s.processFrame f).1 = (s.throughService f).endStages ((s.throughMotion f).outgoingCeiling f)
      (frameChainOpen (s.frameThroughChain f)) := by
  rw [State.processFrame_fst, State.afterService_eq h]

/-- What stage 8 left stands when OUTBOUND_PROCESSING is over, in every part that no later step may write. -/
theorem State.processed_keeps_service {s : State} {f : Frame} (h : FrameSized f) :
    (s.processed f).table = (s.throughService f).table
      ∧ (s.processed f).slot.record = (s.throughService f).slot.record
      ∧ (s.processed f).slot.pendingCommit = (s.throughService f).slot.pendingCommit
      ∧ (s.processed f).line.waitingReset = (s.throughService f).line.waitingReset
      ∧ (s.processed f).events.enable = (s.throughService f).events.enable
      ∧ (s.processed f).events.high = (s.throughService f).events.high
      ∧ (s.processed f).joint = (s.throughService f).joint ∧ (s.processed f).inputs = (s.throughService f).inputs := by
  have out := s.processed_frame f
  have stages := s.processFrame_frame f
  rw [State.afterService_eq h] at stages
  have slot : (s.processed f).slot = _ := out .slot (by decide)
  have events : (s.processed f).events = _ := out .events (by decide)
  obtain ⟨record, indication⟩ := (s.throughService f).endStages_slot ((s.throughMotion f).outgoingCeiling f)
    (frameChainOpen (s.frameThroughChain f))
  obtain ⟨enable, high, -⟩ := (s.throughService f).endStages_onlyRaises ((s.throughMotion f).outgoingCeiling f)
    (frameChainOpen (s.frameThroughChain f))
  rw [← State.processFrame_fst_of_sized h] at record indication enable high
  have line : (s.processed f).line.waitingReset = (s.throughService f).line.waitingReset := by
    rw [State.processed, State.withOutboundTx_waitingReset]
    exact congrArg LineBlock.waitingReset (stages .line (by decide))
  exact ⟨(out .table (by decide)).trans (stages .table (by decide)), by rw [slot, record],
    by rw [slot, indication], line, by rw [events, enable], by rw [events, high],
    (out .joint (by decide)).trans (stages .joint (by decide)),
    (out .inputs (by decide)).trans (stages .inputs (by decide))⟩

/-- No drive is left STARTING with DRDY active (R125). -/
theorem State.processed_waits (s : State) (f : Frame) (h : (s.processed f).drive.st = .starting) :
    (s.processed f).drdyActive = false := by
  have out := s.processed_frame f
  rw [show (s.processed f).drive = _ from out .drive (by decide), State.processFrame_fst] at h
  rw [State.drdyActive_congr (out .table (by decide)) (out .inputs (by decide)), State.processFrame_fst]
  exact State.endStages_waits _ _ _ h

/-- A MID node whose stages end without a stall ends in the state of stage 8, a STARTING drive with DRDY active in
RUNNING (R109, R125). -/
theorem State.processed_of_mid_below {s : State} {f : Frame} (h : FrameSized f) (hm : s.power.role = .mid)
    (below : (s.throughService f).wheel.frozen = true
      ∨ (s.throughService f).wheel.counter < (s.throughService f).stallThreshold) :
    s.processed f = (s.throughService f).takeReady.withOutboundTx (.sending (s.processFrame f).2) := by
  have role : (s.throughService f).power.role = .mid := by
    rw [← State.afterService_eq h, State.afterService_power, hm]
  rw [State.processed, State.processFrame_fst_of_sized h]
  congr 1
  exact (State.endStages_of_below _ _ below).2 role

/-- Settles O13: the line and the records by the stages that write them, stage 8 by its commands, and the rest by the
two ways the stages end. -/
theorem takenFrameIsProcessedAndSent : Obligations.TakenFrameIsProcessedAndSent := by
  intro f s hr ht
  refine ⟨s.processed f, exec_outboundProcessing_of_taken hr ht, fun hm => ?_, fun he => ?_, ?_⟩
  · obtain ⟨m, w, e⟩ := State.processed_line_of_mid hm f
    rw [e]
    exact ⟨rfl, rfl, rfl⟩
  · obtain ⟨w, e⟩ := State.processed_line_of_endNode he f
    rw [e]
    exact ⟨rfl, rfl, rfl, rfl⟩
  obtain ⟨last, rxInner, rxOuter, timer⟩ := s.processed_line f
  obtain ⟨lamp, mode, dir, power, pending⟩ := s.processed_records f
  refine ⟨last, rxInner, rxOuter, timer, lamp, mode, dir, power, pending, ?_⟩
  intro h u v r threshold
  have out := s.processed_frame f
  have wheel : (s.processed f).wheel = (s.processFrame f).1.wheel := out .wheel (by decide)
  have events : (s.processed f).events = (s.processFrame f).1.events := out .events (by decide)
  have ctrl : (s.processed f).ctrl = (s.processFrame f).1.ctrl := out .ctrl (by decide)
  refine ⟨fun hs hw hp hz => ⟨fun c hc => ?_, fun hu => ?_⟩, s.processed_waits f, fun below => ⟨?_, fun hm hd => ?_,
    fun hm hst hdrdy => ?_⟩, fun hf hc => ?_, State.processed_keeps_service h⟩
  · rw [exec_serviceCommands hc, State.serveCommand_eq_throughService hr hs hw hp hz]
  · rw [exec_unknownOp hu, State.serveCommand_eq_throughService hr hs hw hp hz]
  · rw [wheel, State.processFrame_fst_of_sized h]
    exact (State.endStages_of_below _ _ below).1
  · rw [State.processed_of_mid_below h hm below]
    obtain ⟨hst, hdrdy, -⟩ | ⟨-, e⟩ := v.takeReady_cases
    · simp [hst, hdrdy] at hd
    · rw [e]
  · rw [State.processed_of_mid_below h hm below]
    obtain ⟨-, -, e⟩ | ⟨hd, -⟩ := v.takeReady_cases
    · rw [e, State.enterRunning_eq]
    · simp [hst, hdrdy] at hd
  · obtain ⟨wheel', stall, trips⟩ := State.endStages_of_reached ((s.throughMotion f).outgoingCeiling f)
      (frameChainOpen (s.frameThroughChain f)) hf hc
    have seq : (s.throughService f).line.lastOut = frameSeq f := by
      rw [← State.afterService_eq h, State.afterService_lastOut]
    rw [← State.processFrame_fst_of_sized h, seq] at trips
    rw [← State.processFrame_fst_of_sized h] at wheel' stall
    rw [wheel, events, ctrl]
    exact ⟨wheel', stall, trips⟩

end Sys2Proof.Machine
end

section
/-! SUPPORT. What a profile swap leaves in the Crossing Table, the Slot Engine, Joint Capture and the Line Interface
(R19, R24, R102, R155): one lemma per block, in the order in which the blocks act (log 10). -/

namespace Sys2Proof.Machine

theorem State.swapBanks_activeBank (s : State) : s.swapBanks.activeBank = s.stagingBank := by
  unfold State.activeBank State.stagingBank State.swapBanks TableBlock.swap TableBlock.relook BankId.other
  cases s.table.active <;> rfl

theorem State.swapBanks_stagingBank (s : State) : s.swapBanks.stagingBank = s.activeBank := by
  unfold State.activeBank State.stagingBank State.swapBanks TableBlock.swap TableBlock.relook BankId.other
  cases s.table.active <;> rfl

theorem State.swapBanks_params (s : State) : s.swapBanks.params = s.stagingBank.params := by
  rw [State.params, s.swapBanks_activeBank]

/-- The state that the Line Interface finds at a swap: the banks exchanged, and Joint Capture, the Wheel Monitor and the
Drive Sequencer done (log 10). -/
def State.swappedToDrive (s : State) : State := ((s.swapBanks.jointAtSwap).wheelAtSwap s.params).driveAtSwap s.params

theorem State.profileSwap_eq (s : State) : s.profileSwap = s.swappedToDrive.lineAtSwap.inputsAtSwap s.params := rfl

theorem State.swappedToDrive_table (s : State) : s.swappedToDrive.table = s.swapBanks.table := by
  simp [State.swappedToDrive]

theorem State.swappedToDrive_params (s : State) : s.swappedToDrive.params = s.stagingBank.params := by
  rw [State.params_congr s.swappedToDrive_table, s.swapBanks_params]

theorem State.profileSwap_table (s : State) : s.profileSwap.table = s.swapBanks.table := by
  simp [State.profileSwap_eq, State.swappedToDrive_table]

theorem State.profileSwap_params (s : State) : s.profileSwap.params = s.stagingBank.params := by
  rw [State.params_congr s.profileSwap_table, s.swapBanks_params]

theorem State.profileSwap_slot (s : State) :
    s.profileSwap.slot = { s.slot with pendingCommit := false, swapMade := true } := by
  simp [State.profileSwap_eq, State.swappedToDrive, State.swapBanks]

/-- A waiting reading is tested again under the parameters that enter; with none waiting the valid flag stands
(R102). -/
theorem State.profileSwap_joint_of_fresh {s : State} {r : Reading} (h : s.joint.fresh = true)
    (hr : s.joint.reading = some r) : s.profileSwap.joint = { s.joint with
      valid := readingValid s.stagingBank.params r
      holdCount := min s.joint.holdCount s.stagingBank.params.holdLimit } := by
  simp [State.profileSwap_eq, State.swappedToDrive, State.jointAtSwap, State.swapBanks_params, h, hr]

theorem State.profileSwap_joint_of_not_fresh {s : State} (h : s.joint.fresh = false) :
    s.profileSwap.joint =
      { s.joint with holdCount := min s.joint.holdCount s.stagingBank.params.holdLimit } := by
  simp [State.profileSwap_eq, State.swappedToDrive, State.jointAtSwap, State.swapBanks_params, h]

theorem State.profileSwap_holdCount (s : State) :
    s.profileSwap.joint.holdCount = min s.joint.holdCount s.stagingBank.params.holdLimit := by
  simp [State.profileSwap_eq, State.swappedToDrive, State.jointAtSwap, State.swapBanks_params]

/-- Of the line a swap changes the miss count of a MID node that stands at the new limit or above it (R19). -/
theorem State.lineAtSwap_of_reached {s : State} (hm : s.power.role = .mid)
    (h : s.params.returnMissLimit ≤ s.line.missCount) :
    s.lineAtSwap = (s.withLine { s.line with missCount := s.params.returnMissLimit }).loseReturns := by
  rw [State.lineAtSwap, if_pos ⟨State.isEnd_of_mid hm, h⟩]

theorem State.lineAtSwap_of_below {s : State}
    (h : s.power.role = .endNode ∨ s.line.missCount < s.params.returnMissLimit) : s.lineAtSwap = s := by
  rw [State.lineAtSwap, if_neg fun ⟨mid, reached⟩ => by
    obtain he | hb := h
    · simp [State.isEnd_of_endNode he] at mid
    · omega]

end Sys2Proof.Machine
end

section
/-! SUPPORT. The limits of the latched ceiling, the joint hold count and the return-miss count, and Joint Capture at END
(R16, R36, R95, R102, R103, R170), at every operation and command, and the obligation about them. -/

namespace Sys2Proof.Machine

/-! ## The relation: each law that holds before holds after -/

/-- Each of the four laws that `s` meets, `t` meets. -/
structure State.KeepsCounts (s t : State) : Prop where
  ceiling : s.CeilingLaw → t.CeilingLaw
  hold : s.HoldCountLaw → t.HoldCountLaw
  miss : s.MissLaw → t.MissLaw
  endJoint : s.EndJointLaw → t.EndJointLaw

theorem State.KeepsCounts.refl (s : State) : s.KeepsCounts s := ⟨id, id, id, id⟩

theorem State.KeepsCounts.trans {s t u : State} (h : s.KeepsCounts t) (k : t.KeepsCounts u) : s.KeepsCounts u :=
  ⟨k.ceiling ∘ h.ceiling, k.hold ∘ h.hold, k.miss ∘ h.miss, k.endJoint ∘ h.endJoint⟩

/-- A command that acts on a condition keeps the laws when its act does. -/
theorem State.KeepsCounts.ite {s t : State} {p : Prop} [Decidable p] (h : p → s.KeepsCounts t) :
    s.KeepsCounts (if p then t else s) := by
  split
  · next hp => exact h hp
  · exact .refl s

/-- The same of a command that acts when a condition fails. -/
theorem State.KeepsCounts.iteNot {s t : State} {p : Prop} [Decidable p] (h : ¬p → s.KeepsCounts t) :
    s.KeepsCounts (if p then s else t) := by
  split
  · exact .refl s
  · next hp => exact h hp

/-- The laws read the ceiling, Joint Capture, the miss count, the parameters and the role alone. -/
theorem State.KeepsCounts.of_fields {s t : State} (role : t.isEnd = s.isEnd) (params : t.params = s.params)
    (ceiling : t.slot.ceiling = s.slot.ceiling) (joint : t.joint = s.joint)
    (miss : t.line.missCount = s.line.missCount) : s.KeepsCounts t := by
  refine ⟨fun h => ?_, fun h => ?_, fun h => ?_, fun h => ?_⟩
  · rwa [State.CeilingLaw, ceiling]
  · rwa [State.HoldCountLaw, joint, params]
  · rwa [State.MissLaw, miss, params, role]
  · rwa [State.EndJointLaw, role, joint]

/-- The laws read the Line Interface, the Slot Engine, Joint Capture, the Crossing Table and the straps alone. -/
theorem State.KeepsCounts.of_frame {s t : State}
    (h : State.SameOutside [.ctrl, .demand, .wheel, .drive, .events, .inputs, .lamp, .pending] s t) :
    s.KeepsCounts t := by
  have slot : t.slot = s.slot := h .slot (by decide)
  have line : t.line = s.line := h .line (by decide)
  exact .of_fields (State.isEnd_congr (h .power (by decide))) (State.params_congr (h .table (by decide)))
    (by rw [slot]) (h .joint (by decide)) (by rw [line])

/-- Every reset of all blocks leaves the counts at 0 and Joint Capture idle (R21, R42, R104). -/
theorem State.KeepsCounts.of_reset {s t : State} (h : t.BlocksAtReset) : s.KeepsCounts t := by
  obtain ⟨line, slot, -, -, joint, -⟩ := h
  obtain ⟨-, -, -, -, -, -, miss, -⟩ := line
  obtain ⟨ceiling, -⟩ := slot
  obtain ⟨measurement, -, fresh, valid, theta, hold⟩ := joint
  exact ⟨fun _ => by simp [State.CeilingLaw, ceiling], fun _ => by simp [State.HoldCountLaw, hold],
    fun _ => by simp [State.MissLaw, miss], fun _ _ => ⟨measurement, valid, fresh, theta, hold⟩⟩

/-! ## The span line -/

theorem LineBlock.withTx_missCount (x : LineBlock) (link : Link) (b : TxBuffer) :
    (LineBlock.withTx x link b).missCount = x.missCount := by
  cases link <;> rfl

theorem LineBlock.withWaiting_missCount (x : LineBlock) (link : Link) (f : Option Frame) :
    (LineBlock.withWaiting x link f).missCount = x.missCount := by
  cases link <;> rfl

theorem State.placeFrame_keepsCounts (s : State) (link : Link) (f : Frame) :
    s.KeepsCounts (s.placeFrame link f) := by
  unfold State.placeFrame
  (repeat' split) <;>
    exact .of_fields (by simp) (by simp) (by simp) (by simp)
      (by simp [LineBlock.withTx_missCount, LineBlock.withWaiting_missCount])

theorem State.arriveFrame_keepsCounts (s : State) (link : Link) (burst : List RxByte) :
    s.KeepsCounts (s.arriveFrame link burst) := by
  unfold State.arriveFrame
  split
  · exact .of_frame ((s.raise_frame .lineError).mono (by decide))
  · split
    · exact State.KeepsCounts.trans
        (.of_fields (by simp) (by simp) (by simp) (by simp) (by simp [State.outboundArrival_line]))
        (State.placeFrame_keepsCounts _ _ _)
    · exact State.placeFrame_keepsCounts _ _ _

theorem State.finishSending_keepsCounts (s : State) (link : Link) : s.KeepsCounts (s.finishSending link) := by
  refine .of_fields (by simp) (by simp) (by simp) (by simp) ?_
  unfold State.finishSending State.takeWaiting
  simp only
  (repeat' split) <;> simp [LineBlock.withTx_missCount, LineBlock.withWaiting_missCount]

/-- A matching return latches a ceiling of at most 1000 and clears the miss count (R20, R36). -/
theorem State.acceptReturn_keepsCounts (s : State) (f : Frame) : s.KeepsCounts (s.acceptReturn f) := by
  have accepted : s.acceptReturn f = (s.returned f).latchInbound f := by
    simp [State.acceptReturn, State.returned, State.marked]
  have line : (s.acceptReturn f).line.missCount = 0 := by
    rw [accepted, State.latchInbound_line, State.returned_line]
  refine ⟨fun _ => ?_, fun h => ?_, fun _ => ?_, fun h => ?_⟩
  · rw [State.CeilingLaw, accepted, State.latchInbound_slot]
    exact Nat.min_le_left _ _
  · simpa [State.HoldCountLaw] using h
  · simp [State.MissLaw, line]
  · simpa [State.EndJointLaw] using h

theorem State.takeInbound_keepsCounts (s : State) (f : Frame) : s.KeepsCounts (s.takeInbound f) := by
  unfold State.takeInbound
  simp only
  exact State.KeepsCounts.trans (t := if s.returnMatches f then s.acceptReturn f else s)
    (.ite fun _ => s.acceptReturn_keepsCounts f) (.of_fields rfl rfl rfl rfl rfl)

/-! ## Service records -/

theorem State.operate_ceiling (s : State) (op : Byte) (item : Word16) (p : Payload) :
    (s.operate op item p).state.slot.ceiling = s.slot.ceiling := by
  unfold State.operate State.opReadParam State.opWriteParam State.opReadEntry State.opWriteEntry State.opTrimEntries
    State.opStageFromActive State.opCommit State.opSetEvents State.opReadLive State.opLineReset
  (repeat' split) <;> rfl

/-- No service operation reaches a count, a flag of Joint Capture or the active bank. -/
theorem State.serve_keepsCounts (s : State) (r : ServiceRecord) : s.KeepsCounts (s.serve r).1 := by
  have frame := s.serve_frame r
  have ceiling : (s.serve r).1.slot.ceiling = s.slot.ceiling := by
    obtain e | e := s.serve_state_cases r <;> rw [e]
    exact s.operate_ceiling _ _ _
  obtain ⟨w, line⟩ := s.serve_line r
  exact .of_fields (State.isEnd_congr (frame .power (by decide))) (s.serve_params r) ceiling (frame .joint (by decide))
    (by rw [line])

theorem State.serveCommand_keepsCounts (s : State) (op : Byte) (q : Request) : s.KeepsCounts (s.serveCommand op q) :=
  .ite fun _ => (s.serve_keepsCounts (recordOf op q)).trans (.of_fields rfl rfl rfl rfl rfl)

/-! ## Outbound processing -/

/-- A missed return counts to RETURN_MISS_LIMIT at most, and END counts none (R16, R19). -/
theorem State.countMiss_keepsCounts {s : State} (mid : s.isEnd = false) : s.KeepsCounts s.countMiss := by
  refine ⟨fun h => ?_, fun h => ?_, fun _ => ?_, fun h => ?_⟩
  · simpa [State.CeilingLaw] using h
  · simpa [State.HoldCountLaw] using h
  · simp [State.MissLaw, State.countMiss_line, mid]
  · simpa [State.EndJointLaw] using h

theorem State.returnCheck_keepsCounts (s : State) (seq : Word16) : s.KeepsCounts (s.returnCheck seq) := by
  have note (a : State) (r : Option ReturnRecord) : a.KeepsCounts (a.withLine { a.line with returnRec := r }) :=
    .of_fields rfl rfl rfl rfl rfl
  unfold State.returnCheck
  split
  · exact .refl s
  · next mid =>
    (repeat' split)
    · exact note s _
    · exact note s _
    · exact (State.countMiss_keepsCounts (by simpa using mid)).trans (note _ _)

theorem State.takeOutbound_keepsCounts (s : State) (f : Frame) : s.KeepsCounts (s.takeOutbound f) := by
  have check : s.KeepsCounts ((s.withLine { s.line with lastOut := frameSeq f }).returnCheck (frameSeq f)) :=
    State.KeepsCounts.trans (t := s.withLine { s.line with lastOut := frameSeq f }) (.of_fields rfl rfl rfl rfl rfl)
      (State.returnCheck_keepsCounts _ _)
  unfold State.takeOutbound
  simp only
  split
  · exact check.trans (.of_frame ((State.enterChain_frame _ _).mono (by decide)))
  · exact check

/-! ## The swap (R19, R102) -/

theorem State.lineAtSwap_missLaw (s : State) (h : s.isEnd = true → s.line.missCount = 0) : s.lineAtSwap.MissLaw := by
  cases role : s.power.role with
  | mid =>
    have mid := State.isEnd_of_mid role
    by_cases hr : s.params.returnMissLimit ≤ s.line.missCount
    · rw [State.lineAtSwap_of_reached role hr]
      simp [State.MissLaw, mid]
    · rw [State.lineAtSwap_of_below (.inr (by omega))]
      exact ⟨by omega, h⟩
  | endNode =>
    rw [State.lineAtSwap_of_below (.inl role)]
    have count := h (State.isEnd_of_endNode role)
    exact ⟨by omega, h⟩

/-- The swap brings the hold count and the miss count within the limits that enter (R19, R102). -/
theorem State.profileSwap_keepsCounts (s : State) : s.KeepsCounts s.profileSwap := by
  refine ⟨fun h => ?_, fun _ => ?_, fun h => ?_, fun h hend => ?_⟩
  · rwa [State.CeilingLaw, State.profileSwap_slot]
  · rw [State.HoldCountLaw, State.profileSwap_holdCount, State.profileSwap_params]
    exact Nat.min_le_right _ _
  · have law := s.swappedToDrive.lineAtSwap_missLaw (by simpa [State.swappedToDrive] using h.2)
    simpa [State.MissLaw, State.profileSwap_eq] using law
  · obtain ⟨measurement, valid, fresh, theta, hold⟩ := h (by simpa using hend)
    rw [State.profileSwap_joint_of_not_fresh fresh]
    simp [measurement, valid, fresh, theta, hold]

theorem State.stageSwap_keepsCounts (s : State) (f : Frame) : s.KeepsCounts (s.stageSwap f) := by
  have lamp (a : State) : a.KeepsCounts (a.lampAtFrame (frameSeq f)) :=
    .of_frame ((a.lampAtFrame_frame _).mono (by decide))
  unfold State.stageSwap
  simp only
  split
  · exact s.profileSwap_keepsCounts.trans (lamp _)
  · exact State.KeepsCounts.trans (t := s.withSlot { s.slot with swapMade := false }) (.of_fields rfl rfl rfl rfl rfl)
      (lamp _)

/-! ## Stages 3 to 9 -/

theorem State.stageCommand_ceiling (s : State) (f : Frame) (owned : Bool) :
    (s.stageCommand f owned).slot.ceiling = s.slot.ceiling := by
  unfold State.stageCommand
  simp only
  (repeat' split) <;> simp

theorem State.stageCommand_keepsCounts (s : State) (f : Frame) (owned : Bool) :
    s.KeepsCounts (s.stageCommand f owned) :=
  .of_fields (by simp) (by simp) (State.stageCommand_ceiling s f owned) (by simp) (by simp)

/-- A computation holds the angle at most HOLD_LIMIT times, and is no concern of Joint Capture at END (R95, R103). -/
theorem State.takeJoint_keepsCounts (s : State) : s.KeepsCounts s.takeJoint := by
  unfold State.takeJoint
  split
  · exact .of_frame fun b hb => by cases b <;> first | rfl | simp at hb
  · next mid =>
    have raised (a : State) (b : Bool) (e : Event) : a.KeepsCounts (a.raiseIf b e) :=
      .of_frame ((a.raiseIf_frame b e).mono (by decide))
    split
    · next theta _ =>
      refine State.KeepsCounts.trans ?_ ((raised _ _ _).trans (raised _ _ _))
      exact ⟨id, fun _ => Nat.zero_le _, id, fun _ hend => absurd hend mid⟩
    · refine State.KeepsCounts.trans ?_
        ((State.KeepsCounts.of_frame ((State.raiseCondition_frame _ _).mono (by decide))).trans (raised _ _ _))
      exact ⟨id, fun _ => Nat.min_le_left _ _, id, fun _ hend => absurd hend mid⟩

theorem State.inputStep_keepsCounts (s : State) (f : Frame) : s.KeepsCounts (s.inputStep f) := by
  unfold State.inputStep
  exact State.KeepsCounts.trans (.of_fields (by simp) (by simp) (by simp) (by simp) (by simp))
    (State.takeJoint_keepsCounts _)

theorem State.stageMotion_keepsCounts (s : State) (f : Frame) : s.KeepsCounts (s.stageMotion f) := by
  have step := State.KeepsCounts.trans (.of_frame ((s.beginMotion_frame f).mono (by decide)))
    ((s.beginMotion f).inputStep_keepsCounts f)
  exact step.trans
    (.of_fields (by simp [State.stageMotion]) (by simp) (by simp) (by simp [State.stageMotion]) (by simp))

theorem State.throughMotion_keepsCounts (s : State) (f : Frame) : s.KeepsCounts (s.throughMotion f) :=
  ((((s.takeOutbound_keepsCounts f).trans (State.stageSwap_keepsCounts _ f)).trans
    (.of_frame ((State.stageLocate_frame _ f).mono (by decide)))).trans (State.stageCommand_keepsCounts _ f _)).trans
      (State.stageMotion_keepsCounts _ f)

theorem State.stageChain_ceiling (s : State) (f : Frame) : (s.stageChain f).slot.ceiling = s.slot.ceiling := by
  unfold State.stageChain
  split <;> simp

theorem State.stageService_keepsCounts (s : State) (f : Frame) : s.KeepsCounts (s.stageService f).1 := by
  obtain ⟨record, e | e⟩ := s.stageService_state_cases f <;> rw [e]
  · exact (s.serve_keepsCounts _).trans (.of_fields rfl rfl rfl rfl rfl)
  · exact .of_fields rfl rfl rfl rfl rfl

/-- END latches the ceiling it sends, which is at most 1000 (R32, R37). -/
theorem State.turnAround_keepsCounts (s : State) {ceiling : Nat} (h : ceiling ≤ 1000) (chainOpen : Bool) :
    s.KeepsCounts (s.turnAround ceiling chainOpen) := by
  refine ⟨fun _ => ?_, fun k => ?_, fun k => ?_, fun k => ?_⟩
  · simpa [State.CeilingLaw, State.turnAround_slot] using h
  · simpa [State.HoldCountLaw] using k
  · simpa [State.MissLaw] using k
  · simpa [State.EndJointLaw] using k

theorem State.endStages_keepsCounts (s : State) {ceiling : Nat} (h : ceiling ≤ 1000) (chainOpen : Bool) :
    s.KeepsCounts (s.endStages ceiling chainOpen) := by
  have stall : s.KeepsCounts s.stallTest := .of_frame (s.stallTest_frame.mono (by decide))
  have ready (a : State) : a.KeepsCounts a.takeReady := .of_frame (a.takeReady_frame.mono (by decide))
  unfold State.endStages
  split
  · exact (stall.trans (s.stallTest.turnAround_keepsCounts h chainOpen)).trans (ready _)
  · exact stall.trans (ready _)

theorem State.processFrame_keepsCounts (s : State) (f : Frame) : s.KeepsCounts (s.processFrame f).1 := by
  have chain : (s.throughMotion f).KeepsCounts (s.throughChain f) :=
    .of_fields (by simp [State.throughChain]) (by simp [State.throughChain]) (State.stageChain_ceiling _ f)
      (by simp [State.throughChain]) (by simp [State.throughChain])
  rw [State.processFrame_fst]
  exact (((s.throughMotion_keepsCounts f).trans chain).trans (State.stageService_keepsCounts _ _)).trans
    (State.endStages_keepsCounts _ (State.outgoingCeiling_le _ f) _)

theorem State.processed_keepsCounts (s : State) (f : Frame) : s.KeepsCounts (s.processed f) := by
  refine (s.processFrame_keepsCounts f).trans ?_
  unfold State.processed State.withOutboundTx
  split <;> exact .of_fields rfl rfl rfl rfl rfl

/-! ## The joint measurement (R90, R91) -/

/-- The edges of JOINT reach the measurement, the reading and the flags of a MID node, and no count (R90, R103). -/
theorem State.KeepsCounts.of_joint {s : State} {x : JointBlock} (mid : s.isEnd = false)
    (h : x.holdCount = s.joint.holdCount) : s.KeepsCounts (s.withJoint x) := by
  refine ⟨id, fun k => ?_, id, fun _ hend => ?_⟩
  · simpa [State.HoldCountLaw, h] using k
  · simp [mid] at hend

theorem State.fallingEdge_keepsCounts {s : State} (mid : s.isEnd = false) (samples : Nat) :
    s.KeepsCounts (s.fallingEdge samples) := by
  unfold State.fallingEdge
  split <;> exact .of_joint mid rfl

theorem State.risingEdge_keepsCounts {s : State} (mid : s.isEnd = false) (samples : Nat) :
    s.KeepsCounts (s.risingEdge samples) := by
  unfold State.risingEdge
  split <;> exact .of_joint mid rfl

theorem State.isEnd_of_jointSampled {s : State} (h : s.jointSampled = true) : s.isEnd = false := by
  simp only [State.jointSampled, Bool.and_eq_true, Bool.not_eq_true'] at h
  exact h.2

/-! ## Every command, every step -/

theorem execInboundTake_keepsCounts {s t : State} (h : execInboundTake s = .next t) : s.KeepsCounts t := by
  obtain rfl := Host.Outcome.next.inj h
  refine .ite fun _ => ?_
  split
  · exact s.takeInbound_keepsCounts _
  · exact .refl s
  · exact .refl s

theorem execOutboundProcessing_keepsCounts {s t : State} (h : execOutboundProcessing s = .next t) :
    s.KeepsCounts t := by
  obtain rfl := Host.Outcome.next.inj h
  refine .ite fun _ => ?_
  split
  · exact s.processed_keepsCounts _
  · exact .refl s
  · exact .refl s

theorem execLineResetEffect_keepsCounts {s t : State} (h : execLineResetEffect s = .next t) : s.KeepsCounts t := by
  obtain rfl := Host.Outcome.next.inj h
  refine .ite fun _ => ?_
  split
  · exact .refl s
  · exact .of_reset (s.resetBlocks_blocksAtReset _)

/-- Every command keeps each of the four laws: a reset leaves the counts at 0, a processing, a matching return and the
joint edges write them within their limits, and no other command reaches them. -/
theorem exec_keepsCounts {c : Instr} {s t : State} (h : exec c s = .next t) : s.KeepsCounts t := by
  cases c
  case inboundTake => exact execInboundTake_keepsCounts h
  case outboundProcessing => exact execOutboundProcessing_keepsCounts h
  case lineResetEffect => exact execLineResetEffect_keepsCounts h
  all_goals obtain rfl := Host.Outcome.next.inj h
  case powerOnReset => exact .iteNot fun _ => .of_reset (s.resetBlocks_blocksAtReset false)
  case supplyLoss => exact .ite fun _ => .of_reset (s.resetBlocks_blocksAtReset false)
  case initialisationEnd => exact .ite fun _ => .of_reset (State.resetBlocks_blocksAtReset _ false)
  case pinReset => exact .of_reset (s.resetBlocks_blocksAtReset false)
  case pinResetRelease => exact .ite fun _ => .of_fields rfl rfl rfl rfl rfl
  case frameArrival => exact .ite fun _ => s.arriveFrame_keepsCounts _ _
  case transmitComplete => exact .ite fun _ => s.finishSending_keepsCounts _
  case clearSet => exact .ite fun _ => .of_frame ((s.applyClearSet_frame _).mono (by decide))
  case driveReset => exact .ite fun _ => .of_frame (s.applyDriveReset_frame.mono (by decide))
  case readParam | writeParam | readEntry | writeEntry | trimEntries | stageFromActive | commit | setEvents | readLive
      | lineReset =>
    exact s.serveCommand_keepsCounts _ _
  case unknownOp => exact .iteNot fun _ => s.serveCommand_keepsCounts _ _
  case frameTimeout =>
    exact .ite fun _ => .of_fields (by simp) (by simp) (by simp) (by simp) (by simp [State.expireFrameTimer_line])
  case jointMeasurementStart =>
    exact .ite fun ⟨sampled, _⟩ => .of_joint (State.isEnd_of_jointSampled sampled) rfl
  case jointFallingEdge => exact .ite fun h => State.fallingEdge_keepsCounts (State.isEnd_of_jointSampled h) _
  case jointReadingComplete => exact .ite fun h => State.risingEdge_keepsCounts (State.isEnd_of_jointSampled h) _
  case wheelTooth => exact .ite fun _ => .of_fields (by simp) (by simp) (by simp) (by simp) (by simp)
  case stall => exact .ite fun _ => .of_frame (s.stallTest_frame.mono (by decide))
  case inputChange => exact .ite fun _ => .of_fields (by simp) (by simp) (by simp) (by simp) (by simp)
  case startTimeout => exact .ite fun _ => .of_frame (s.faultDrive_frame.mono (by decide))
  case onTimeEnd => exact .ite fun _ => .of_frame (s.endOnTime_frame.mono (by decide))
  case restingEnd => exact .ite fun _ => .of_frame (s.endRest_frame.mono (by decide))
  case stopTimeEnd => exact .ite fun _ => .of_frame (s.arriveOff_frame.mono (by decide))
  case localStepTimerExpiry => exact .ite fun _ => .of_frame (s.expireStepTimer_frame.mono (by decide))
  case wheelTick =>
    exact .ite fun _ => State.KeepsCounts.trans (t := s.tickReference) (.of_fields rfl rfl rfl rfl rfl)
      (.of_frame ((s.tickReference.wheelTick_frame _).mono (by decide)))
  case inputSample i level =>
    exact .ite fun _ => State.KeepsCounts.trans (t := s.markSampled i) (.of_fields rfl rfl rfl rfl rfl)
      (.of_frame ((State.sampleInput_frame _ i level).mono (by decide)))

theorem step_keepsCounts {s t : State} (h : step s = .next t) : s.KeepsCounts t := by
  cases hp : s.pending with
  | nil =>
    rw [step, hp] at h
    obtain rfl := Host.Outcome.next.inj h
    exact .refl s
  | cons c rest =>
    rw [step_cons s c rest hp] at h
    exact State.KeepsCounts.trans (t := s.withPending rest) (.of_fields rfl rfl rfl rfl rfl) (exec_keepsCounts h)

/-- Settles O57: every step keeps each of the four laws, by the relation that every command keeps. -/
theorem countsStayWithinLimits : Obligations.CountsStayWithinLimits :=
  ⟨⟨fun _ _ law h => (step_keepsCounts h).ceiling law, fun _ _ law h => (step_keepsCounts h).hold law,
    fun _ _ law h => (step_keepsCounts h).miss law⟩, fun _ _ law h => (step_keepsCounts h).endJoint law⟩

end Sys2Proof.Machine
end

section
/-! SUPPORT. What the acts of the State Controller and the Drive Sequencer keep, whatever brings them: the hold-cause
set, a STANDBY with its trip record, the law of the drive output, and the flags that they do not raise (R44 to R48, R51, R132).
One relation, and one lemma per act that cites those of the acts it is made of. -/

namespace Sys2Proof.Machine

/-! ## The relation -/

/-- `t` is `s` after acts that follow the node's rules: none of them takes a node out of STANDBY or into it, energizes
the drive outside RUN and LOCAL, clears a flag or raises one of the events named. -/
structure State.Follows (quiet : List Event) (s t : State) : Prop where
  standby : ∀ b, s.ctrl.node = .standby b → t.ctrl.node = .standby b ∧ t.ctrl.trip = s.ctrl.trip
  awake : (∀ b, s.ctrl.node ≠ .standby b) → ∀ b, t.ctrl.node ≠ .standby b
  drive : s.DriveLaw → t.DriveLaw
  raises : State.OnlyRaises s t
  flags : ∀ e ∈ quiet, hasEvent t.events.flags e = hasEvent s.events.flags e

/-- The same of acts that no hold cause enters or leaves by. -/
structure State.Reacts (quiet : List Event) (s t : State) : Prop extends State.Follows quiet s t where
  holds : t.ctrl.holds = s.ctrl.holds

theorem State.Follows.refl (quiet : List Event) (s : State) : s.Follows quiet s :=
  ⟨fun _ h => ⟨h, rfl⟩, id, id, .refl s, fun _ _ => rfl⟩

theorem State.Follows.trans {quiet : List Event} {s t u : State} (h : s.Follows quiet t) (k : t.Follows quiet u) :
    s.Follows quiet u := by
  refine ⟨fun b hb => ?_, k.awake ∘ h.awake, k.drive ∘ h.drive, h.raises.trans k.raises,
    fun e he => (k.flags e he).trans (h.flags e he)⟩
  obtain ⟨node, trip⟩ := h.standby b hb
  obtain ⟨node', trip'⟩ := k.standby b node
  exact ⟨node', trip'.trans trip⟩

theorem State.Follows.mono {large small : List Event} {s t : State} (h : s.Follows large t)
    (sub : ∀ e ∈ small, e ∈ large) : s.Follows small t :=
  ⟨h.standby, h.awake, h.drive, h.raises, fun e he => h.flags e (sub e he)⟩

theorem State.Reacts.refl (quiet : List Event) (s : State) : s.Reacts quiet s := ⟨.refl quiet s, rfl⟩

theorem State.Reacts.trans {quiet : List Event} {s t u : State} (h : s.Reacts quiet t) (k : t.Reacts quiet u) :
    s.Reacts quiet u :=
  ⟨h.toFollows.trans k.toFollows, k.holds.trans h.holds⟩

theorem State.Reacts.mono {large small : List Event} {s t : State} (h : s.Reacts large t)
    (sub : ∀ e ∈ small, e ∈ large) : s.Reacts small t :=
  ⟨h.toFollows.mono sub, h.holds⟩

/-- An act that leaves the State Controller as it is. -/
theorem State.Reacts.of_ctrl {quiet : List Event} {s t : State} (ctrl : t.ctrl = s.ctrl)
    (drive : s.DriveLaw → t.DriveLaw) (raises : State.OnlyRaises s t)
    (flags : ∀ e ∈ quiet, hasEvent t.events.flags e = hasEvent s.events.flags e) : s.Reacts quiet t :=
  ⟨⟨fun _ h => ⟨by rw [ctrl, h], by rw [ctrl]⟩, by rw [ctrl]; exact id, drive, raises, flags⟩, by rw [ctrl]⟩

/-- An act that leaves the State Controller and the events, and energizes no drive. -/
theorem State.Reacts.of_quiet {quiet : List Event} {s t : State} (ctrl : t.ctrl = s.ctrl)
    (drive : DriveState.energizes t.drive.st = true → DriveState.energizes s.drive.st = true)
    (events : t.events = s.events) : s.Reacts quiet t := by
  refine .of_ctrl ctrl (fun law h1 h2 => ?_) (.of_events events) (fun e _ => by rw [events])
  have off := law (by rwa [← ctrl]) (by rwa [← ctrl])
  cases on : DriveState.energizes t.drive.st
  · rfl
  · rw [drive on] at off
    exact off

/-- The events that the taking, stage 2 and AUX alone raise: no act of the node raises them. -/
def turnEvents : List Event := [.chainStop, .strap, .aux]

theorem outsideEvaluation_of_turnEvents {e : Event} (h : e ∈ turnEvents) : e.outsideEvaluation := by
  simp only [turnEvents, List.mem_cons, List.not_mem_nil, or_false] at h
  obtain rfl | rfl | rfl := h <;> exact ⟨nofun, nofun, nofun⟩

/-! ## Events -/

theorem State.raise_reacts (s : State) {e : Event} (h : e ∉ turnEvents) : s.Reacts turnEvents (s.raise e) :=
  .of_ctrl (by simp) (fun law => by simpa [State.DriveLaw] using law) (s.raise_onlyRaises e)
    fun e' he => State.hasEvent_raise_of_ne s fun same => h (same ▸ he)

theorem State.raiseIf_reacts (s : State) (b : Bool) {e : Event} (h : e ∉ turnEvents) :
    s.Reacts turnEvents (s.raiseIf b e) := by
  cases b
  · exact .refl _ s
  · exact s.raise_reacts h

theorem State.raiseCondition_reacts (s : State) (x : Condition) : s.Reacts turnEvents (s.raiseCondition x) :=
  .of_ctrl (by simp) (fun law => by simpa [State.DriveLaw] using law) (s.raiseCondition_onlyRaises x)
    fun _ he => State.hasEvent_raise_of_ne _ (outsideEvaluation_of_turnEvents he).1

theorem State.raiseConditionIf_reacts (s : State) (b : Bool) (x : Condition) :
    s.Reacts turnEvents (s.raiseConditionIf b x) := by
  cases b
  · exact .refl _ s
  · exact s.raiseCondition_reacts x

/-! ## The drive -/

/-- A node in RUN or LOCAL meets the law of the drive output whatever its drive does (R132). -/
theorem State.driveLaw_of_moving {s : State} (h : s.ctrl.node = .run ∨ s.ctrl.node = .manual) : s.DriveLaw :=
  fun h1 h2 => (h.elim h1 h2).elim

theorem State.driveStop_reacts (s : State) : s.Reacts turnEvents s.driveStop :=
  .of_ctrl (by simp) (fun _ h1 h2 => s.driveStop_energizes (by simpa using h1) (by simpa using h2))
    s.driveStop_onlyRaises fun _ he => s.driveStop_hasEvent (outsideEvaluation_of_turnEvents he)

theorem State.takeReady_reacts (s : State) : s.Reacts turnEvents s.takeReady := by
  obtain ⟨starting, -, e⟩ | ⟨-, e⟩ := s.takeReady_cases <;> rw [e]
  · exact .of_quiet (by simp) (fun _ => by rw [starting]; rfl) (by simp)
  · exact .refl _ s

/-- A start is made in RUN alone (R123, R128). -/
theorem State.startIfDue_reacts (s : State) : s.Reacts turnEvents s.startIfDue := by
  refine .of_ctrl (by simp) (fun law => ?_) s.startIfDue_onlyRaises
    fun _ he => s.startIfDue_hasEvent (outsideEvaluation_of_turnEvents he)
  by_cases run : s.ctrl.node = .run
  · exact State.driveLaw_of_moving (.inl (by simpa using run))
  · rwa [s.startIfDue_of_not_due fun h => run h.1]

/-- A jog begins in LOCAL alone (R136). -/
theorem State.startJogIfDue_reacts (s : State) : s.Reacts turnEvents s.startJogIfDue := by
  refine .of_ctrl (by simp) (fun law => ?_) (.of_events (by simp)) (fun _ _ => by simp)
  by_cases manual : s.ctrl.node = .manual
  · exact State.driveLaw_of_moving (.inr (by simpa using manual))
  · rwa [s.startJogIfDue_of_not_manual manual]

/-- The end of a jog is the stop of R132. -/
theorem State.endJog_eq (s : State) :
    s.endJog = if s.drive.jog = true ∧ DriveState.energizes s.drive.st = true then s.driveStop else s := by
  unfold State.endJog
  split
  · next h =>
    cases st : s.drive.st <;> simp [st, DriveState.energizes] at h <;> simp [State.driveStop, st]
  · rfl

theorem State.endJog_reacts (s : State) : s.Reacts turnEvents s.endJog := by
  rw [State.endJog_eq]
  split
  · exact s.driveStop_reacts
  · exact .refl _ s

/-! ## Node states -/

/-- Leaving RUN or LOCAL stops the drive, and so does a trip (R48, R52, R132). -/
theorem State.moveTo_driveLaw (s : State) (n : NodeState) (law : s.DriveLaw) : (s.moveTo n).DriveLaw := by
  intro h1 h2
  rw [State.moveTo_ctrl] at h1 h2
  by_cases same : n = s.ctrl.node
  · rw [same, State.moveTo_self]
    exact law (same ▸ h1) (same ▸ h2)
  · have stopped (a : State) (ha : a.ctrl.node = n) : DriveState.energizes a.driveStop.drive.st = false :=
      a.driveStop_energizes (ha ▸ h1) (ha ▸ h2)
    simp only [State.moveTo, if_neg same, if_neg h2]
    split
    · exact stopped _ (by split <;> simp [State.withNode])
    · next rest =>
      simp only [not_or] at rest
      rw [if_neg rest.1]
      exact law rest.1 rest.2.1

/-- A move between two states other than STANDBY. -/
theorem State.moveTo_reacts {s : State} {n : NodeState} (hs : ∀ b, s.ctrl.node ≠ .standby b)
    (hn : ∀ b, n ≠ .standby b) : s.Reacts turnEvents (s.moveTo n) :=
  ⟨⟨fun b h => absurd h (hs b), fun _ => by simpa using hn, s.moveTo_driveLaw n, s.moveTo_onlyRaises n,
    fun _ he => s.moveTo_hasEvent n (outsideEvaluation_of_turnEvents he)⟩, by simp⟩

theorem State.withTrip_reacts {s : State} (hs : ∀ b, s.ctrl.node ≠ .standby b) (r : Option TripRecord) :
    s.Reacts turnEvents (s.withTrip r) :=
  ⟨⟨fun b h => absurd h (hs b), id, id, .of_events rfl, fun _ _ => rfl⟩, rfl⟩

theorem State.servingState_ne_standby (s : State) (b : Bool) : s.servingState ≠ .standby b := by
  unfold State.servingState
  (repeat' split) <;> simp

theorem State.evaluated_ne_standby {s : State} (hs : ∀ b, s.ctrl.node ≠ .standby b) (b : Bool) :
    s.evaluated ≠ .standby b := by
  have serving := s.servingState_ne_standby b
  unfold State.evaluated
  split
  · next h => exact absurd h (hs _)
  all_goals (repeat' split) <;> simp [serving]

theorem State.tripRequest_reacts (s : State) (cause : TripCause) : s.Reacts turnEvents (s.tripRequest cause) := by
  have trips (hs : ∀ b, s.ctrl.node ≠ .standby b) (r : Option TripRecord) : s.Reacts turnEvents
      (((s.withTrip r).moveTo .tripped).moveTo ((s.withTrip r).moveTo .tripped).evaluated) := by
    have tripped : ∀ b, ((s.withTrip r).moveTo .tripped).ctrl.node ≠ .standby b := by simp
    exact ((State.withTrip_reacts hs r).trans (State.moveTo_reacts hs (by simp))).trans
      (State.moveTo_reacts tripped (State.evaluated_ne_standby tripped))
  unfold State.tripRequest
  split
  case h_1 => exact .refl _ s
  case h_2 h | h_3 h | h_4 h => exact trips (by simp [h]) _
  case h_5 h => exact State.withTrip_reacts (by simp [h]) _
  case h_6 h =>
    (repeat' split)
    · exact State.withTrip_reacts (by simp [h]) _
    · exact State.withTrip_reacts (by simp [h]) _
    · exact .refl _ s

theorem State.tripRequestIf_reacts (s : State) (b : Bool) (cause : TripCause) :
    s.Reacts turnEvents (s.tripRequestIf b cause) := by
  cases b
  · exact .refl _ s
  · exact s.tripRequest_reacts cause

theorem State.safeRequest_reacts (s : State) : s.Reacts turnEvents s.safeRequest :=
  (s.raise_reacts (by decide)).trans (State.tripRequest_reacts _ _)

theorem State.evaluate_reacts (s : State) : s.Reacts turnEvents s.evaluate := by
  by_cases hs : ∃ b, s.ctrl.node = .standby b
  · obtain ⟨b, hb⟩ := hs
    rw [s.evaluate_of_standby b hb]
    exact .refl _ s
  · have awake : ∀ b, s.ctrl.node ≠ .standby b := fun b hb => hs ⟨b, hb⟩
    have moved := State.moveTo_reacts awake (State.evaluated_ne_standby awake)
    unfold State.evaluate
    simp only
    split
    · exact moved.trans (State.safeRequest_reacts _)
    · exact moved

/-- A change of the hold-cause set is the set written and an evaluation (R44, R50). -/
theorem State.setHolds_follows (s : State) (h : HoldCauses) : s.Follows turnEvents (s.setHolds h) := by
  by_cases hne : h = s.ctrl.holds
  · subst hne
    rw [State.setHolds_same rfl]
    exact .refl _ s
  · have written : s.Follows turnEvents (s.withHolds h) :=
      ⟨fun _ k => ⟨k, rfl⟩, id, id, .of_events rfl, fun _ _ => rfl⟩
    rw [State.setHolds_of_ne hne]
    exact written.trans (State.evaluate_reacts _).toFollows

theorem State.faultDrive_eq (s : State) : s.faultDrive =
    ((s.withDrive (DriveBlock.stoppedAt s.drive .faulted)).raise .driveFault).tripRequest .driveFault := rfl

theorem State.faultDrive_reacts (s : State) : s.Reacts turnEvents s.faultDrive := by
  have off : s.Reacts turnEvents (s.withDrive (DriveBlock.stoppedAt s.drive .faulted)) :=
    .of_quiet rfl (fun h => (Bool.false_ne_true h).elim) rfl
  exact (off.trans (State.raise_reacts _ (by decide))).trans (State.tripRequest_reacts _ _)

/-! ## Inputs (R178, R179) -/

theorem State.safeChange_reacts (s : State) (nowActive : Bool) : s.Reacts turnEvents (s.safeChange nowActive) := by
  unfold State.safeChange
  split
  · exact s.evaluate_reacts
  · split
    · exact .refl _ s
    · exact s.raise_reacts (by decide)
    all_goals exact s.safeRequest_reacts

theorem State.jogChange_reacts (s : State) (nowActive : Bool) : s.Reacts turnEvents (s.jogChange nowActive) := by
  have first : s.Reacts turnEvents
      (if nowActive = true ∧ s.drive.st = .off then s.withDrive { s.drive with lockout := false } else s) := by
    split
    · exact .of_quiet rfl id rfl
    · exact .refl _ s
  have jog (a : State) : a.Reacts turnEvents
      (if a.ctrl.node = .manual then
        if DriveState.energizes a.drive.st = true ∧ a.jogSelection ≠ some a.drive.dir then a.endJog
        else a.startJogIfDue
      else a) := by
    (repeat' split)
    · exact a.endJog_reacts
    · exact a.startJogIfDue_reacts
    · exact .refl _ a
  exact first.trans (jog _)

theorem State.drdyChange_reacts (s : State) (nowActive : Bool) : s.Reacts turnEvents (s.drdyChange nowActive) := by
  unfold State.drdyChange
  (repeat' split)
  · exact s.takeReady_reacts
  · exact s.faultDrive_reacts
  · exact .refl _ s

theorem State.safeTurn_reacts (s : State) (nowActive : Bool) : s.Reacts turnEvents (s.safeTurn nowActive) := by
  unfold State.safeTurn
  split
  · exact s.raise_reacts (by decide)
  · exact s.safeChange_reacts nowActive

/-- The turn of an input other than AUX at a swap (R178). -/
theorem State.inputAtSwap_reacts (s : State) (old : Params) {i : InputName} (h : i ≠ .aux) :
    s.Reacts turnEvents (s.inputAtSwap old i) := by
  have run : s.Reacts turnEvents
      (if PerInput.get old.inputFilter i = PerInput.get s.params.inputFilter i then s
        else s.withInput i { PerInput.get s.inputs i with samples := none }) := by
    split
    · exact .refl _ s
    · exact .of_quiet (by simp) (by simp) (by simp)
  unfold State.inputAtSwap
  simp only
  split
  · exact run
  · cases i
    case safe => exact run.trans (State.safeTurn_reacts _ _)
    case hand => exact run.trans (State.evaluate_reacts _)
    case jogF => exact run.trans (State.jogChange_reacts _ _)
    case jogR => exact run.trans (State.jogChange_reacts _ _)
    case drdy => exact run.trans (State.drdyChange_reacts _ _)
    case aux => exact absurd rfl h

/-- The turns of the inputs before AUX, in the order of log 10. -/
def State.turnsBeforeAux (s : State) (old : Params) : State :=
  ((((s.inputAtSwap old .safe).inputAtSwap old .hand).inputAtSwap old .jogF).inputAtSwap old .jogR).inputAtSwap old
    .drdy

theorem State.inputTurns_eq (s : State) (old : Params) :
    s.inputTurns old = (s.turnsBeforeAux old).inputAtSwap old .aux := rfl

theorem State.turnsBeforeAux_reacts (s : State) (old : Params) : s.Reacts turnEvents (s.turnsBeforeAux old) :=
  ((((s.inputAtSwap_reacts old (by decide)).trans (State.inputAtSwap_reacts _ old (by decide))).trans
    (State.inputAtSwap_reacts _ old (by decide))).trans (State.inputAtSwap_reacts _ old (by decide))).trans
      (State.inputAtSwap_reacts _ old (by decide))

/-- The events that no act of the node raises and no input either. -/
def slotEvents : List Event := [.chainStop, .strap]

theorem State.Reacts.slot {s t : State} (h : s.Reacts turnEvents t) : s.Reacts slotEvents t := h.mono (by decide)

/-- AUX at a swap: its sample run, and its event when its reading turns (R178, R179). -/
theorem State.inputAtSwap_aux_reacts (s : State) (old : Params) : s.Reacts slotEvents (s.inputAtSwap old .aux) := by
  have run : s.Reacts slotEvents
      (if PerInput.get old.inputFilter .aux = PerInput.get s.params.inputFilter .aux then s
        else s.withInput .aux { PerInput.get s.inputs .aux with samples := none }) := by
    split
    · exact .refl _ s
    · exact .of_quiet (by simp) (by simp) (by simp)
  have aux (a : State) (b : Bool) : a.Reacts slotEvents (a.raiseIf b .aux) :=
    .of_ctrl (by simp) (fun law => by simpa [State.DriveLaw] using law) (a.raiseIf_onlyRaises b .aux) fun e he => by
      cases b
      · rfl
      · exact State.hasEvent_raise_of_ne a fun same => by rw [same] at he; exact absurd he (by decide)
  unfold State.inputAtSwap
  simp only
  split
  · exact run
  · exact run.trans (aux _ _)

theorem State.inputsAtSwap_reacts (s : State) (old : Params) : s.Reacts slotEvents (s.inputsAtSwap old) :=
  ((s.turnsBeforeAux_reacts old).slot.trans (State.inputAtSwap_aux_reacts _ old)).trans
    (State.tripRequestIf_reacts _ _ _).slot

/-! ## A swap (R24, R155) -/

theorem State.driveAtSwap_reacts (s : State) (old : Params) : s.Reacts turnEvents (s.driveAtSwap old) := by
  unfold State.driveAtSwap
  (repeat' split)
  · exact s.driveStop_reacts
  · exact .of_quiet (by simp) (by simp) (by simp)
  · exact .refl _ s

theorem State.swappedToDrive_reacts (s : State) : s.Reacts turnEvents s.swappedToDrive := by
  have banks : s.Reacts turnEvents s.swapBanks :=
    .trans
      (t := (s.withTable (TableBlock.swap s.table)).withSlot { s.slot with pendingCommit := false, swapMade := true })
      (.of_quiet rfl id rfl) (State.raise_reacts _ (by decide))
  have joint : s.swapBanks.Reacts turnEvents s.swapBanks.jointAtSwap := .of_quiet (by simp) (by simp) (by simp)
  have wheel (a : State) (old : Params) : a.Reacts turnEvents (a.wheelAtSwap old) :=
    .of_quiet (by simp) (by simp) (by simp)
  exact ((banks.trans joint).trans (wheel _ _)).trans (State.driveAtSwap_reacts _ _)

/-! ## Stages 3 and 4 -/

theorem State.applyDriveReset_reacts (s : State) : s.Reacts turnEvents s.applyDriveReset := by
  unfold State.applyDriveReset
  split
  · next tripped =>
    split
    · unfold State.acceptDriveReset
      simp only
      refine .trans ?_ (State.evaluate_reacts _)
      refine ⟨⟨fun b h => by simp [tripped] at h, fun _ => by simp, fun law _ _ => ?_,
        .of_events (by split <;> simp), fun _ _ => by split <;> simp⟩, by split <;> simp⟩
      have off := law (by simp [tripped]) (by simp [tripped])
      split
      · rfl
      · exact off
    · exact ⟨⟨fun b h => by simp [tripped] at h, id, id, .of_events rfl, fun _ _ => rfl⟩, rfl⟩
  · exact .refl _ s

theorem State.takeJoint_reacts (s : State) : s.Reacts turnEvents s.takeJoint := by
  have taken (x : JointBlock) (y : DemandBlock) : s.Reacts turnEvents ((s.withJoint x).withDemand y) :=
    .of_quiet rfl id rfl
  unfold State.takeJoint
  split
  · exact .of_quiet rfl id rfl
  · split
    · exact ((taken _ _).trans (State.raiseIf_reacts _ _ (by decide))).trans (State.raiseIf_reacts _ _ (by decide))
    · exact ((taken _ _).trans (State.raiseCondition_reacts _ _)).trans (State.raiseIf_reacts _ _ (by decide))

theorem State.inputStep_reacts (s : State) (f : Frame) : s.Reacts turnEvents (s.inputStep f) := by
  have looked : s.Reacts turnEvents ((s.withDemand { s.demand with causes := Conditions.none }).lookupAngle f) :=
    .of_quiet (by simp) (by simp) (by simp)
  exact (looked.trans (State.raiseConditionIf_reacts _ _ _)).trans (State.takeJoint_reacts _)

theorem State.raiseMotion_reacts (s : State) (m : MotionResult) : s.Reacts turnEvents (s.raiseMotion m) :=
  ((State.raiseConditionIf_reacts _ _ _).trans (State.raiseConditionIf_reacts _ _ _)).trans
    (State.raiseConditionIf_reacts _ _ _)

theorem State.takeRequests_reacts (s : State) (r : TripRequests) : s.Reacts turnEvents (s.takeRequests r) := by
  unfold State.takeRequests
  simp only
  refine .trans ?_ ((((State.tripRequestIf_reacts _ _ _).trans (State.tripRequestIf_reacts _ _ _)).trans
    (State.tripRequestIf_reacts _ _ _)).trans (State.tripRequestIf_reacts _ _ _))
  split
  · exact .refl _ s
  · exact s.tripRequest_reacts _

/-- The first evaluation of any node but one in plain STANDBY (R46). -/
theorem State.firstEvaluate_reacts {s : State} (h : s.ctrl.node ≠ .standby false) :
    s.Reacts turnEvents s.firstEvaluate := by
  have moved : s.Reacts turnEvents (s.moveTo s.evaluated) := by
    by_cases hs : ∃ b, s.ctrl.node = .standby b
    · obtain ⟨b, hb⟩ := hs
      have stays : s.evaluated = s.ctrl.node := by simp [State.evaluated, hb]
      rw [stays, State.moveTo_self]
      exact .refl _ s
    · have awake : ∀ b, s.ctrl.node ≠ .standby b := fun b hb => hs ⟨b, hb⟩
      exact State.moveTo_reacts awake (State.evaluated_ne_standby awake)
  unfold State.firstEvaluate
  simp only [if_neg h]
  split
  · exact moved.trans (State.safeRequest_reacts _)
  · exact moved

/-- What acts in RUN without an event, on the drive or the demand (R122). -/
theorem State.Reacts.of_run {s t : State} (run : s.ctrl.node = .run) (ctrl : t.ctrl = s.ctrl)
    (events : t.events = s.events) : s.Reacts turnEvents t :=
  .of_ctrl ctrl (fun _ => State.driveLaw_of_moving (.inl (by rw [ctrl, run]))) (.of_events events)
    fun _ _ => by rw [events]

theorem State.changeDirection_reacts (s : State) : s.Reacts turnEvents s.changeDirection := by
  by_cases run : s.ctrl.node = .run
  · exact .of_run run (by simp) (by simp)
  · rw [State.changeDirection, if_neg fun h => run h.1]
    exact .refl _ s

theorem State.actOnDemand_reacts (s : State) : s.Reacts turnEvents s.actOnDemand := by
  unfold State.actOnDemand
  split
  · next run =>
    have act {t : State} (ctrl : t.ctrl = s.ctrl) (events : t.events = s.events) : s.Reacts turnEvents t :=
      .of_run run ctrl events
    unfold State.actDuty State.actRate
    (repeat' split) <;> first | exact s.startIfDue_reacts | exact act (by simp) (by simp)
  · exact .refl _ s

theorem State.handDemandOver_reacts (s : State) (f : Frame) (candidate : Nat) :
    s.Reacts turnEvents (s.handDemandOver f candidate) := by
  have record : s.Reacts turnEvents (s.withDrive { s.drive with dirRecord := frameDirection f }) :=
    .of_quiet rfl id rfl
  have settle (a : State) : a.Reacts turnEvents (a.settleDemand candidate) := .of_quiet rfl id rfl
  exact ((record.trans (State.changeDirection_reacts _)).trans (settle _)).trans (State.actOnDemand_reacts _)

/-- The state stage 4 begins its evaluation from: a node in plain STANDBY stands in IDLE (R46). -/
def State.woken (s : State) : State := if s.ctrl.node = .standby false then s.withNode .idle else s

theorem State.woken_of_plain {s : State} (h : s.ctrl.node = .standby false) : s.woken = s.withNode .idle := by
  rw [State.woken, if_pos h]

theorem State.woken_of_not_plain {s : State} (h : s.ctrl.node ≠ .standby false) : s.woken = s := by
  rw [State.woken, if_neg h]

theorem State.woken_not_plain (s : State) : s.woken.ctrl.node ≠ .standby false := by
  unfold State.woken
  split
  · simp [State.withNode]
  · assumption

@[simp] theorem State.woken_holds (s : State) : s.woken.ctrl.holds = s.ctrl.holds := by
  unfold State.woken
  split <;> rfl

@[simp] theorem State.woken_events (s : State) : s.woken.events = s.events := by
  unfold State.woken
  split <;> rfl

theorem State.beginMotion_woken (s : State) (f : Frame) : s.beginMotion f = s.woken.beginMotion f := by
  by_cases h : s.ctrl.node = .standby false
  · rw [State.woken_of_plain h]
    simp [State.beginMotion, State.firstEvaluate, State.withNode, h]
    rfl
  · rw [State.woken_of_not_plain h]

theorem State.beginMotion_reacts (s : State) (f : Frame) : s.woken.Reacts turnEvents (s.beginMotion f) := by
  have mode : s.woken.Reacts turnEvents (s.woken.withCtrl { s.woken.ctrl with machineRun := frameMachineRun f }) :=
    ⟨⟨fun _ h => ⟨h, rfl⟩, id, id, .of_events rfl, fun _ _ => rfl⟩, rfl⟩
  rw [State.beginMotion_woken]
  exact mode.trans (State.firstEvaluate_reacts s.woken_not_plain)

/-- Stage 4, once plain STANDBY is left, is made of acts that follow the node's rules. -/
theorem State.stageMotion_reacts (s : State) (f : Frame) : s.woken.Reacts turnEvents (s.stageMotion f) := by
  have settle (a : State) (c : Nat) : a.Reacts turnEvents (a.settleContribution c) := .of_quiet rfl id rfl
  exact ((((((s.beginMotion_reacts f).trans (State.inputStep_reacts _ f)).trans (State.raiseMotion_reacts _ _)).trans
    (State.takeRequests_reacts _ _)).trans (State.evaluate_reacts _)).trans (settle _ _)).trans
      (State.handDemandOver_reacts _ f _)

/-! ## The stall test (R109, R110) -/

theorem State.stallTest_reacts (s : State) : s.Reacts turnEvents s.stallTest := by
  have stalled : s.Reacts turnEvents s.stalled :=
    .trans (t := s.withWheel { s.wheel with frozen := true }) (.of_quiet rfl id rfl)
      (State.raise_reacts _ (by decide))
  have lock (a : State) : a.Reacts turnEvents (a.withDrive { a.drive with lockout := true }) := .of_quiet rfl id rfl
  have trip := stalled.trans (State.tripRequestIf_reacts _ s.params.tripEnables.stall .stall)
  unfold State.stallTest
  split
  · obtain e | ⟨-, e⟩ := s.raiseStall_cases <;> rw [e]
    · exact trip
    · exact (trip.trans (lock _)).trans (State.endJog_reacts _)
  · exact .refl _ s

end Sys2Proof.Machine
end

section
/-! SUPPORT. CHAIN and its event through the taking and the stages (R19, R24, R25, R38, R184), and the obligations about
the ceiling and the chain that go on (R32, R33). -/

namespace Sys2Proof.Machine

/-! ## The outgoing ceiling (R32) -/

@[simp] theorem State.actOnDemand_c (s : State) : s.actOnDemand.demand.c = s.demand.c := by
  unfold State.actOnDemand State.actDuty State.actRate
  (repeat' split) <;> simp

/-- The hand-over leaves the contribution that stage 4 settled (R78, R122). -/
theorem State.handDemandOver_c (s : State) (f : Frame) (candidate : Nat) :
    (s.handDemandOver f candidate).demand.c = s.demand.c := by
  simp [State.handDemandOver, State.settleDemand]

/-- Outside RUN the contribution is 0 (R78). -/
theorem State.stageMotion_c_of_not_run {s : State} {f : Frame} (h : (s.stageMotion f).ctrl.node ≠ .run) :
    (s.stageMotion f).demand.c = 0 := by
  unfold State.stageMotion at h ⊢
  simp only [State.handDemandOver_ctrl, State.handDemandOver_c, State.settleContribution_ctrl] at h ⊢
  simp [State.settleContribution, h]

/-- Settles O15: the field carries the outgoing ceiling of stage 6, whose third part is 0 outside RUN. -/
theorem ceilingNeverRises : Obligations.CeilingNeverRises := by
  intro f s h
  rw [State.frameCeiling_processFrame h]
  refine ⟨rfl, ?_, State.outgoingCeiling_le _ f, fun notRun => ?_⟩
  · unfold State.outgoingCeiling
    omega
  · have contribution : (s.throughMotion f).demand.c = 0 := State.stageMotion_c_of_not_run notRun
    simp [State.outgoingCeiling, contribution]

/-! ## The taking (R19, R38) -/

theorem State.loseReturns_follows (s : State) : s.Follows turnEvents s.loseReturns :=
  (s.raise_reacts (by decide)).toFollows.trans (State.setHolds_follows _ _)

/-- All that the return check does: the line written, and RETURN_LOST between when a miss reaches the limit (R19). -/
theorem State.returnCheck_cases (s : State) (seq : Word16) :
    (∃ x, s.returnCheck seq = s.withLine x)
      ∨ ∃ x y, s.returnCheck seq = ((s.withLine x).loseReturns).withLine y := by
  unfold State.returnCheck State.countMiss
  simp only
  (repeat' split)
  · exact .inl ⟨s.line, rfl⟩
  · exact .inl ⟨_, rfl⟩
  · exact .inl ⟨_, rfl⟩
  · exact .inr ⟨_, _, rfl⟩
  · exact .inl ⟨_, rfl⟩

theorem State.withLine_reacts (s : State) (x : LineBlock) : s.Reacts turnEvents (s.withLine x) := .of_quiet rfl id rfl

theorem State.returnCheck_follows (s : State) (seq : Word16) : s.Follows turnEvents (s.returnCheck seq) := by
  obtain ⟨x, e⟩ | ⟨x, y, e⟩ := s.returnCheck_cases seq <;> rw [e]
  · exact (s.withLine_reacts x).toFollows
  · exact ((s.withLine_reacts x).toFollows.trans (State.loseReturns_follows _)).trans
      (State.withLine_reacts _ y).toFollows

theorem State.returnCheck_chain (s : State) (seq : Word16) :
    (s.returnCheck seq).ctrl.holds.chain = s.ctrl.holds.chain := by
  obtain ⟨x, e⟩ | ⟨x, y, e⟩ := s.returnCheck_cases seq <;> simp [e, State.loseReturns_holds]

@[simp] theorem State.returnCheck_machineRun (s : State) (seq : Word16) :
    (s.returnCheck seq).ctrl.machineRun = s.ctrl.machineRun := by
  obtain ⟨x, e⟩ | ⟨x, y, e⟩ := s.returnCheck_cases seq <;> simp [e, State.loseReturns]

/-- What the return check leaves of a RUN node whose run conditions stand (R19, R48, R132). -/
theorem State.returnCheck_of_run {s : State} (seq : Word16) (run : s.ctrl.node = .run) (hc : s.RunConditions) :
    ((s.returnCheck seq).ctrl.node = .run ∧ (s.returnCheck seq).demand = s.demand
        ∧ (s.returnCheck seq).drive = s.drive)
      ∨ ((s.returnCheck seq).ctrl.node = .hold ∧ (s.returnCheck seq).demand.d = 0 ∧ (s.returnCheck seq).demand.c = 0
        ∧ DriveBlock.StoppedTo s.drive (s.returnCheck seq).drive s.params.stopTime) := by
  obtain ⟨x, e⟩ | ⟨x, y, e⟩ := s.returnCheck_cases seq <;> rw [e]
  · exact .inl ⟨run, rfl, rfl⟩
  · exact State.setHolds_of_run (s := (s.withLine x).raise .returnLost) run hc

/-- The state before the chain is looked at: the sequence noted and the return check made (R19, R52). -/
def State.checked (s : State) (f : Frame) : State :=
  (s.withLine { s.line with lastOut := frameSeq f }).returnCheck (frameSeq f)

theorem State.takeOutbound_eq (s : State) (f : Frame) :
    s.takeOutbound f = if frameChainOpen f then (s.checked f).enterChain false else s.checked f := rfl

theorem State.checked_follows (s : State) (f : Frame) : s.Follows turnEvents (s.checked f) :=
  (s.withLine_reacts _).toFollows.trans (State.returnCheck_follows _ _)

theorem State.checked_chain (s : State) (f : Frame) : (s.checked f).ctrl.holds.chain = s.ctrl.holds.chain :=
  State.returnCheck_chain _ _

theorem State.RunConditions.checked {s : State} (h : s.RunConditions) (f : Frame) : (s.checked f).RunConditions :=
  h.congr (by simp [State.checked]) (by simp [State.checked]) (by simp [State.checked]) (by simp [State.checked])

theorem State.takeOutbound_chain (s : State) (f : Frame) :
    (s.takeOutbound f).ctrl.holds.chain = (s.ctrl.holds.chain || frameChainOpen f) := by
  rw [State.takeOutbound_eq]
  split
  · next ho => simp [State.enterChain_holds, ho]
  · next ho => simp [State.checked_chain, ho]

/-- At the taking CHAIN_STOP is raised exactly when CHAIN enters (R38). -/
theorem State.takeOutbound_hasEvent_chainStop (s : State) (f : Frame) :
    hasEvent (s.takeOutbound f).events.flags .chainStop =
      (hasEvent s.events.flags .chainStop || (frameChainOpen f && !s.ctrl.holds.chain)) := by
  have kept := (s.checked_follows f).flags .chainStop (by decide)
  rw [State.takeOutbound_eq]
  split
  · next ho => simp [State.enterChain_hasEvent_chainStop, kept, State.checked_chain, ho]
  · next ho => simp [kept, ho]

/-- CHAIN entering at the taking takes a RUN node whose run conditions stand to HOLD, unless the return check
already has (R38, R48, R132). -/
theorem State.takeOutbound_holds_run {s : State} {f : Frame} (ho : frameChainOpen f = true)
    (absent : s.ctrl.holds.chain = false) (run : s.ctrl.node = .run) (hc : s.RunConditions) :
    (s.takeOutbound f).ctrl.node = .hold ∧ (s.takeOutbound f).demand.d = 0 ∧ (s.takeOutbound f).demand.c = 0
      ∧ DriveBlock.StoppedTo s.drive (s.takeOutbound f).drive s.params.stopTime := by
  have params : (s.checked f).params = s.params := by simp [State.checked]
  rw [State.takeOutbound_eq, if_pos ho]
  obtain ⟨node, demand, drive⟩ | ⟨node, d, c, stopped⟩ :=
    State.returnCheck_of_run (s := s.withLine { s.line with lastOut := frameSeq f }) (frameSeq f) run hc
  · have h := State.enterChain_holds_run (s := s.checked f) false ((s.checked_chain f).trans absent) node
      (hc.checked f)
    rw [params, show (s.checked f).drive = s.drive from drive] at h
    exact h
  · obtain ⟨node', demand', drive'⟩ := State.enterChain_of_hold (s := s.checked f) false node (hc.checked f)
    rw [node', demand', drive']
    exact ⟨rfl, d, c, stopped⟩

/-! ## Stages 1 to 4 -/

theorem State.lineAtSwap_follows (s : State) : s.Follows turnEvents s.lineAtSwap := by
  unfold State.lineAtSwap
  split
  · exact (s.withLine_reacts _).toFollows.trans (State.loseReturns_follows _)
  · exact .refl _ s

theorem State.lineAtSwap_chain (s : State) : s.lineAtSwap.ctrl.holds.chain = s.ctrl.holds.chain := by
  unfold State.lineAtSwap
  split <;> simp [State.loseReturns_holds]

theorem State.profileSwap_follows (s : State) : s.Follows slotEvents s.profileSwap :=
  (s.swappedToDrive_reacts.slot.toFollows.trans (s.swappedToDrive.lineAtSwap_follows.mono (by decide))).trans
    (State.inputsAtSwap_reacts _ _).toFollows

theorem State.stageSwap_follows (s : State) (f : Frame) : s.Follows slotEvents (s.stageSwap f) := by
  have lamp (a : State) : a.Reacts slotEvents (a.lampAtFrame (frameSeq f)) := .of_quiet rfl id rfl
  have note : s.Reacts slotEvents (s.withSlot { s.slot with swapMade := false }) := .of_quiet rfl id rfl
  unfold State.stageSwap
  simp only
  split
  · exact s.profileSwap_follows.trans (lamp _).toFollows
  · exact note.toFollows.trans (lamp _).toFollows

theorem State.stageSwap_chain (s : State) (f : Frame) : (s.stageSwap f).ctrl.holds.chain = s.ctrl.holds.chain := by
  have swap : s.profileSwap.ctrl.holds.chain = s.ctrl.holds.chain := by
    rw [State.profileSwap_eq, (State.inputsAtSwap_reacts _ _).holds, State.lineAtSwap_chain,
      s.swappedToDrive_reacts.holds]
  unfold State.stageSwap
  simp only
  split
  · simpa using swap
  · simp

theorem State.stageLocate_chain (s : State) (f : Frame) : (s.stageLocate f).ctrl.holds.chain = s.ctrl.holds.chain := by
  unfold State.stageLocate State.enterStrapFault
  simp only
  (repeat' split) <;> simp [State.withTrip]

theorem State.enterStrapFault_hasEvent (s : State) {e : Event} (h : e.outsideEvaluation) :
    hasEvent s.enterStrapFault.events.flags e = hasEvent s.events.flags e := by
  have moved := (s.withTrip none).moveTo_hasEvent (.standby true) h
  unfold State.enterStrapFault
  simp only
  split <;> simpa using moved

theorem State.stageLocate_hasEvent_chainStop (s : State) (f : Frame) :
    hasEvent (s.stageLocate f).events.flags .chainStop = hasEvent s.events.flags .chainStop := by
  have strap : hasEvent (s.raise .strap).events.flags .chainStop = hasEvent s.events.flags .chainStop :=
    State.hasEvent_raise_of_ne s (by decide)
  unfold State.stageLocate
  (repeat' split)
  · rw [State.enterStrapFault_hasEvent _ State.chainStop_outsideEvaluation, strap]
  · exact State.setHolds_hasEvent _ _ State.chainStop_outsideEvaluation
  · exact State.setHolds_hasEvent _ _ State.chainStop_outsideEvaluation
  · exact strap

/-- The flags after a clear set: those it does not name (R184). -/
theorem State.applyClearSet_hasEvent (s : State) (named : Word16) (e : Event) :
    hasEvent (s.applyClearSet named).events.flags e = (hasEvent s.events.flags e && !hasEvent named e) := by
  have bit : Event.rank e - 1 < 16 := by cases e <;> decide
  have flags : (s.applyClearSet named).events.flags = s.events.flags &&& ~~~named := by
    unfold State.applyClearSet
    simp only
    (repeat' split) <;> rfl
  simp [flags, hasEvent, bit]

/-- All that stage 3 does: without an owned slot the command record emptied; with one, the record, the clear set and the
drive reset of its flag (R27, R28). -/
theorem State.stageCommand_of_not_owned (s : State) (f : Frame) :
    s.stageCommand f false = s.withSlot { s.slot with runPermit := false, haltPass := false } := rfl

/-- `s` with the command record and the clear set of the slot it owns (R27, R184). -/
def State.commanded (s : State) (f : Frame) : State :=
  (s.withSlot { s.slot with
    runPermit := (slotCommand f s.indexNat).getLsbD 0, haltPass := (slotCommand f s.indexNat).getLsbD 2 }).applyClearSet
      (slotClearSet f s.indexNat)

theorem State.stageCommand_of_owned (s : State) (f : Frame) :
    s.stageCommand f true =
      if (slotCommand f s.indexNat).getLsbD 1 then (s.commanded f).applyDriveReset else s.commanded f := rfl

theorem State.stageCommand_reacts_commanded (s : State) (f : Frame) :
    (s.commanded f).Reacts turnEvents (s.stageCommand f true) := by
  rw [State.stageCommand_of_owned]
  split
  · exact State.applyDriveReset_reacts _
  · exact .refl _ _

theorem State.stageCommand_holds (s : State) (f : Frame) (owned : Bool) :
    (s.stageCommand f owned).ctrl.holds = s.ctrl.holds := by
  cases owned
  · rfl
  · rw [(s.stageCommand_reacts_commanded f).holds]
    simp [State.commanded]

/-- The clear set of an owned slot alone clears flags (R184). -/
theorem State.stageCommand_hasEvent (s : State) (f : Frame) (owned : Bool) {e : Event} (h : e ∈ turnEvents) :
    hasEvent (s.stageCommand f owned).events.flags e =
      (hasEvent s.events.flags e && !(owned && hasEvent (slotClearSet f s.indexNat) e)) := by
  cases owned
  · simp [State.stageCommand_of_not_owned]
  · rw [(s.stageCommand_reacts_commanded f).flags e h, State.commanded, State.applyClearSet_hasEvent]
    rfl

theorem State.stageMotion_holds (s : State) (f : Frame) : (s.stageMotion f).ctrl.holds = s.ctrl.holds := by
  rw [(s.stageMotion_reacts f).holds, State.woken_holds]

theorem State.stageMotion_hasEvent (s : State) (f : Frame) {e : Event} (h : e ∈ turnEvents) :
    hasEvent (s.stageMotion f).events.flags e = hasEvent s.events.flags e := by
  rw [(s.stageMotion_reacts f).flags e h, State.woken_events]

/-- The state that stage 2 leaves in the processing of `f` (R25, R26). -/
def State.located (s : State) (f : Frame) : State := ((s.takeOutbound f).stageSwap f).stageLocate f

theorem State.throughMotion_eq (s : State) (f : Frame) :
    s.throughMotion f = ((s.located f).stageCommand f (s.ownsSlot f)).stageMotion f := rfl

@[simp] theorem State.located_power (s : State) (f : Frame) : (s.located f).power = s.power := by
  simp [State.located]

@[simp] theorem State.located_indexNat (s : State) (f : Frame) : (s.located f).indexNat = s.indexNat := by
  simp [State.indexNat]

theorem State.located_hasEvent_chainStop (s : State) (f : Frame) :
    hasEvent (s.located f).events.flags .chainStop =
      (hasEvent s.events.flags .chainStop || (frameChainOpen f && !s.ctrl.holds.chain)) := by
  rw [State.located, State.stageLocate_hasEvent_chainStop, (State.stageSwap_follows _ f).flags .chainStop (by decide),
    State.takeOutbound_hasEvent_chainStop]

/-- CHAIN after stage 4: present before, or entered at the taking (R38). -/
theorem State.throughMotion_chain (s : State) (f : Frame) :
    (s.throughMotion f).ctrl.holds.chain = (s.ctrl.holds.chain || frameChainOpen f) := by
  rw [State.throughMotion_eq, State.stageMotion_holds, State.stageCommand_holds, State.located, State.stageLocate_chain,
    State.stageSwap_chain, State.takeOutbound_chain]

/-- CHAIN_STOP after stage 4: raised at the taking, unless the node's own slot clears it (R38, R184). -/
theorem State.throughMotion_hasEvent_chainStop (s : State) (f : Frame) :
    hasEvent (s.throughMotion f).events.flags .chainStop =
      ((hasEvent s.events.flags .chainStop || (frameChainOpen f && !s.ctrl.holds.chain))
        && !(s.ownsSlot f && (slotClearSet f s.indexNat).getLsbD 7)) := by
  rw [State.throughMotion_eq, State.stageMotion_hasEvent _ f (by decide), State.stageCommand_hasEvent _ f _ (by decide),
    State.located_hasEvent_chainStop, State.located_indexNat]
  rfl

/-! ## Stages 7 to 9 -/

theorem State.opensHere_iff (s : State) (f : Frame) : s.opensHere f = true ↔
    (s.ctrl.node = .tripped ∨ s.ctrl.node = .manual ∨ s.ctrl.node = .standby true) ∧ frameChainOpen f = false := by
  cases h : s.ctrl.node with
  | standby b => cases b <;> simp [State.opensHere, NodeState.opensChain, h]
  | idle | run | hold | tripped | manual => simp [State.opensHere, NodeState.opensChain, h]

theorem State.stageChain_chain (s : State) (f : Frame) :
    (s.stageChain f).ctrl.holds.chain = (s.ctrl.holds.chain || s.opensHere f) := by
  unfold State.stageChain
  split
  · next h => simp [State.enterChain_holds, h]
  · next h => simp [h]

/-- The opener raises no CHAIN_STOP (R38). -/
theorem State.stageChain_hasEvent_chainStop (s : State) (f : Frame) :
    hasEvent (s.stageChain f).events.flags .chainStop = hasEvent s.events.flags .chainStop := by
  unfold State.stageChain
  split
  · simp [State.enterChain_hasEvent_chainStop]
  · simp

theorem State.stageChain_outChain (s : State) (f : Frame) : (s.stageChain f).slot.outChain =
    if s.opensHere f then .openedHere else if frameChainOpen f then .openedElsewhere else .closed := by
  unfold State.stageChain
  split <;> simp

theorem State.operate_outChain (s : State) (op : Byte) (item : Word16) (p : Payload) :
    (s.operate op item p).state.slot.outChain = s.slot.outChain := by
  unfold State.operate State.opReadParam State.opWriteParam State.opReadEntry State.opWriteEntry State.opTrimEntries
    State.opStageFromActive State.opCommit State.opSetEvents State.opReadLive State.opLineReset
  (repeat' split) <;> rfl

/-- A service operation raises PROFILE alone (R153, R169). -/
theorem State.operate_hasEvent (s : State) (op : Byte) (item : Word16) (p : Payload) {e : Event} (h : e ≠ .profile) :
    hasEvent (s.operate op item p).state.events.flags e = hasEvent s.events.flags e := by
  unfold State.operate State.opReadParam State.opWriteParam State.opReadEntry State.opWriteEntry State.opTrimEntries
    State.opStageFromActive State.opCommit State.opSetEvents State.opReadLive State.opLineReset
  (repeat' split) <;> first | rfl | exact State.hasEvent_raise_of_ne _ h

theorem State.stageService_outChain (s : State) (f : Frame) : (s.stageService f).1.slot.outChain = s.slot.outChain := by
  obtain ⟨record, e | e⟩ := s.stageService_state_cases f <;> rw [e]
  · obtain e' | e' := s.serve_state_cases (frameRecord f) <;> rw [e']
    · rfl
    · exact s.operate_outChain _ _ _
  · rfl

theorem State.stageService_hasEvent (s : State) (f : Frame) {e : Event} (h : e ≠ .profile) :
    hasEvent (s.stageService f).1.events.flags e = hasEvent s.events.flags e := by
  obtain ⟨record, e | e⟩ := s.stageService_state_cases f <;> rw [e]
  · obtain e' | e' := s.serve_state_cases (frameRecord f) <;> rw [e']
    · rfl
    · exact s.operate_hasEvent _ _ _ h
  · rfl

theorem State.endStages_outChain (s : State) (ceiling : Nat) (chainOpen : Bool) :
    (s.endStages ceiling chainOpen).slot.outChain = s.slot.outChain := by
  unfold State.endStages
  split <;> simp [State.turnAround_slot]

/-- At MID nothing after stage 8 touches the hold-cause set. -/
theorem State.endStages_holds_of_mid {s : State} (hm : s.power.role = .mid) (ceiling : Nat) (chainOpen : Bool) :
    (s.endStages ceiling chainOpen).ctrl.holds = s.ctrl.holds := by
  rw [State.endStages, if_neg (by simp [State.isEnd_of_mid hm]), State.takeReady_ctrl, s.stallTest_reacts.holds]

/-- END raises no CHAIN_STOP at its turn-around when CHAIN stands already in a chain it sends OPEN (R38, R39). -/
theorem State.endStages_hasEvent_chainStop {s : State} {ceiling : Nat} {chainOpen : Bool}
    (h : chainOpen = true → s.ctrl.holds.chain = true) :
    hasEvent (s.endStages ceiling chainOpen).events.flags .chainStop = hasEvent s.events.flags .chainStop := by
  have stall := s.stallTest_reacts
  have kept := stall.flags .chainStop (by decide)
  unfold State.endStages State.turnAround
  (repeat' split)
  · next ho => simp [State.enterChain_hasEvent_chainStop, stall.holds, h ho, kept]
  · simp [State.releaseChain_hasEvent_chainStop, kept]
  · simpa using kept

/-! ## The state and the frame after the processing -/

theorem State.frameChainOpen_frameThroughChain {s : State} {f : Frame} (h : FrameSized f) :
    frameChainOpen (s.frameThroughChain f) = (frameChainOpen f || (s.throughMotion f).opensHere f) := by
  have len : 1 < f.length := by have := h.recordAt_le; have := h.recordAt_ge; omega
  rw [frameChainOpen, frameChainOpen, State.byteAt_frameThroughChain_control len, BitVec.getLsbD_or]
  split <;> simp_all

theorem State.byteAt_setChainOpen_opener (f : Frame) (opener : Byte) (h : 10 < f.length) :
    byteAt (setChainOpen f opener) 10 = opener := by
  rw [setChainOpen, byteAt_set, if_pos ⟨rfl, by simpa using h⟩]

/-- The opener field of the sent frame (R33). -/
theorem State.opener_processFrame {s : State} {f : Frame} (h : FrameSized f) : byteAt (s.processFrame f).2 10 =
    if (s.throughMotion f).opensHere f then (s.throughMotion f).openerByte else byteAt f 10 := by
  have len : 34 ≤ f.length := by have := h.recordAt_le; have := h.recordAt_ge; omega
  rw [State.byteAt_processFrame h 10 (by omega) (by omega), State.byteAt_frameThroughService_header h 10 (by omega),
    State.frameThroughChain, State.headedFrame_eq, State.chainFrame, State.opensHere_headed]
  split
  · exact State.byteAt_setChainOpen_opener _ _ (by simp; omega)
  · rw [byteAt_setCeiling _ _ _ (by omega), State.byteAt_statusFrame_outside _ _ _ _ (by unfold slotAt; omega)]

theorem State.openerByte_toNat (s : State) : s.openerByte.toNat =
    if 1 ≤ s.power.index.toNat ∧ s.power.index.toNat ≤ 30 then s.power.index.toNat else 31 := by
  have small := s.power.index.isLt
  simp only [State.openerByte, State.indexValid, validIndex, State.indexNat, decide_eq_true_eq]
  split
  · rw [BitVec.toNat_ofNat, Nat.mod_eq_of_lt (by omega)]
  · rfl

theorem State.afterService_ctrl (s : State) (f : Frame) : (s.afterService f).ctrl = (s.throughChain f).ctrl :=
  State.stageService_frame _ _ .ctrl (by decide)

theorem State.afterService_chain (s : State) (f : Frame) : (s.afterService f).ctrl.holds.chain =
    (s.ctrl.holds.chain || frameChainOpen f || (s.throughMotion f).opensHere f) := by
  rw [State.afterService_ctrl, State.throughChain, State.stageChain_chain, State.throughMotion_chain]

theorem State.processFrame_outChain (s : State) (f : Frame) : (s.processFrame f).1.slot.outChain =
    if (s.throughMotion f).opensHere f then .openedHere
    else if frameChainOpen f then .openedElsewhere else .closed := by
  rw [State.processFrame_fst, State.endStages_outChain, State.afterService, State.stageService_outChain,
    State.throughChain, State.stageChain_outChain]

/-- CHAIN_STOP after the processing is as stage 4 left it (R38). -/
theorem State.processFrame_hasEvent_chainStop {s : State} {f : Frame} (h : FrameSized f) :
    hasEvent (s.processFrame f).1.events.flags .chainStop =
      hasEvent (s.throughMotion f).events.flags .chainStop := by
  rw [State.processFrame_fst, State.endStages_hasEvent_chainStop, State.afterService,
    State.stageService_hasEvent _ _ (by decide), State.throughChain, State.stageChain_hasEvent_chainStop]
  intro ho
  rw [State.frameChainOpen_frameThroughChain h] at ho
  rw [State.afterService_chain, Bool.or_assoc, ho, Bool.or_true]

/-- Settles O16: stage 7 opens the chain exactly in the three states, CHAIN enters at the taking or in stage 7, and its
event at the taking alone. -/
theorem stoppedNodeOpensChain : Obligations.StoppedNodeOpensChain := by
  intro f s h stops
  have opens : (s.throughMotion f).opensHere f = true ↔ stops ∧ frameChainOpen f = false := State.opensHere_iff _ f
  clear_value stops
  have opens_of_stops (hs : stops) (hc : frameChainOpen f = false) : (s.throughMotion f).opensHere f = true :=
    opens.2 ⟨hs, hc⟩
  have not_opens (hn : ¬stops ∨ frameChainOpen f = true) : (s.throughMotion f).opensHere f = false := by
    rw [← Bool.not_eq_true, opens]
    rintro ⟨hs, hc⟩
    obtain hn | hn := hn
    · exact hn hs
    · simp [hc] at hn
  have sent := State.frameChainOpen_processFrame (s := s) h
  rw [State.frameChainOpen_frameThroughChain h] at sent
  have event := State.processFrame_hasEvent_chainStop (s := s) h
  rw [State.throughMotion_hasEvent_chainStop] at event
  refine ⟨fun hs => ?_, fun hs hc => ?_, fun hn => ?_, fun ho => ?_, fun hs hc => ?_, fun hs hc => ?_, fun hm => ?_,
    State.stageChain_hasEvent_chainStop _ f, fun ho absent => ?_, fun hn raised => ?_⟩
  · cases hc : frameChainOpen f
    · simp [sent, opens_of_stops hs hc]
    · simp [sent, hc]
  · rw [State.opener_processFrame h, if_pos (opens_of_stops hs hc), State.openerByte_toNat, State.throughMotion_power]
  · rw [State.opener_processFrame h, sent]
    simp [not_opens hn]
  · simp [State.processFrame_outChain, not_opens (.inr ho), ho]
  · simp [State.processFrame_outChain, opens_of_stops hs hc]
  · simp [State.processFrame_outChain, not_opens (.inl hs), hc]
  · rw [State.processFrame_fst, State.endStages_holds_of_mid (by simpa using hm), State.afterService_chain]
    rw [Bool.or_assoc, Bool.or_eq_true, Bool.or_eq_true, opens]
    cases frameChainOpen f <;> simp
  · refine ⟨by simp [State.takeOutbound_chain, ho], by simp [State.takeOutbound_hasEvent_chainStop, ho, absent],
      fun kept => ?_, State.takeOutbound_holds_run ho absent⟩
    rw [event]
    obtain k | k := kept <;> rw [k] <;> simp [ho, absent]
  · rw [event] at raised
    obtain hn | hn := hn <;> simp_all

end Sys2Proof.Machine
end

section
/-! SUPPORT. What stage 4 computes from and where it leaves the node (R44 to R46, R54, R64, R82): the angle and the
cause JOINT after the input step, the result of the steps, and the evaluations of a node that nothing trips. -/

namespace Sys2Proof.Machine

/-! ## The angle and the cause JOINT: written by the input step alone (R68, R83) -/

/-- The angle in use and the condition JOINT are as they were. -/
structure State.KeepsAngle (s t : State) : Prop where
  theta : t.demand.theta = s.demand.theta
  joint : t.demand.causes.joint = s.demand.causes.joint

theorem State.KeepsAngle.refl (s : State) : s.KeepsAngle s := ⟨rfl, rfl⟩

theorem State.KeepsAngle.trans {s t u : State} (h : s.KeepsAngle t) (k : t.KeepsAngle u) : s.KeepsAngle u :=
  ⟨k.theta.trans h.theta, k.joint.trans h.joint⟩

theorem State.KeepsAngle.of_demand {s t : State} (h : t.demand = s.demand) : s.KeepsAngle t := ⟨by rw [h], by rw [h]⟩

theorem State.raiseConditionIf_keepsAngle (s : State) (b : Bool) {x : Condition} (h : x ≠ .joint) :
    s.KeepsAngle (s.raiseConditionIf b x) := by
  cases b
  · exact .refl s
  · cases x
    case joint => exact absurd rfl h
    all_goals exact ⟨rfl, rfl⟩

theorem State.startIfDue_keepsAngle (s : State) : s.KeepsAngle s.startIfDue := by
  have short (b : Bool) : s.KeepsAngle (s.raiseConditionIf b .short) := s.raiseConditionIf_keepsAngle b (by decide)
  unfold State.startIfDue State.startDutyPeriod
  simp only
  (repeat' split)
  · exact (short _).trans (.of_demand rfl)
  · exact (short _).trans (.of_demand rfl)
  · exact .of_demand rfl
  · exact .refl s

theorem State.driveStop_keepsAngle (s : State) : s.KeepsAngle s.driveStop := by
  have drive (a b : State) (h : b.demand = a.demand) : a.KeepsAngle b := .of_demand h
  have off (a : State) : a.KeepsAngle a.arriveOff :=
    ((drive a a.driveOff rfl).trans (State.startIfDue_keepsAngle _)).trans
      (drive a.driveOff.startIfDue a.arriveOff (by simp [State.arriveOff]))
  have stop : s.KeepsAngle s.enterStopping := by
    unfold State.enterStopping
    split
    · exact (drive s s.haltMotor rfl).trans (off _)
    · exact .of_demand rfl
  unfold State.driveStop
  split <;> first | exact stop | exact .of_demand rfl

theorem State.moveTo_keepsAngle (s : State) (n : NodeState) : s.KeepsAngle (s.moveTo n) := by
  have leave (a : State) (p : Prop) [Decidable p] : a.KeepsAngle (if p then a.dropDemand else a) := by
    split
    · exact ⟨rfl, rfl⟩
    · exact .refl a
  have enter (a : State) (p : Prop) [Decidable p] : a.KeepsAngle (if p then a.noteLocalEntry else a) := by
    split
    · exact .of_demand (by simp)
    · exact .refl a
  have stop (a : State) (p : Prop) [Decidable p] : a.KeepsAngle (if p then a.driveStop else a) := by
    split
    · exact a.driveStop_keepsAngle
    · exact .refl a
  have jog (a : State) (p : Prop) [Decidable p] : a.KeepsAngle (if p then a.startJogIfDue else a) := by
    split
    · exact .of_demand (by simp)
    · exact .refl a
  have node : s.KeepsAngle (s.withNode n) := .of_demand rfl
  unfold State.moveTo
  split
  · exact .refl s
  · exact (((node.trans (leave _ _)).trans (enter _ _)).trans (stop _ _)).trans (jog _ _)

theorem State.tripRequest_keepsAngle (s : State) (cause : TripCause) : s.KeepsAngle (s.tripRequest cause) := by
  have trip (r : Option TripRecord) : s.KeepsAngle (s.withTrip r) := .of_demand rfl
  unfold State.tripRequest
  (repeat' split)
  case h_1 => exact .refl s
  case h_2 | h_3 | h_4 => exact ((trip _).trans (State.moveTo_keepsAngle _ _)).trans (State.moveTo_keepsAngle _ _)
  all_goals exact .of_demand rfl

theorem State.tripRequestIf_keepsAngle (s : State) (b : Bool) (cause : TripCause) :
    s.KeepsAngle (s.tripRequestIf b cause) := by
  cases b
  · exact .refl s
  · exact s.tripRequest_keepsAngle cause

theorem State.evaluate_keepsAngle (s : State) : s.KeepsAngle s.evaluate := by
  have moved := s.moveTo_keepsAngle s.evaluated
  have raised (a : State) : a.KeepsAngle (a.raise .safety) := .of_demand (by simp)
  unfold State.evaluate
  simp only
  split
  · exact (moved.trans (raised _)).trans (State.tripRequest_keepsAngle _ _)
  · exact moved

theorem State.raiseMotion_keepsAngle (s : State) (m : MotionResult) : s.KeepsAngle (s.raiseMotion m) :=
  ((State.raiseConditionIf_keepsAngle _ _ (by decide)).trans (State.raiseConditionIf_keepsAngle _ _ (by decide))).trans
    (State.raiseConditionIf_keepsAngle _ _ (by decide))

theorem State.takeRequests_keepsAngle (s : State) (r : TripRequests) : s.KeepsAngle (s.takeRequests r) := by
  unfold State.takeRequests
  simp only
  refine .trans ?_ ((((State.tripRequestIf_keepsAngle _ _ _).trans (State.tripRequestIf_keepsAngle _ _ _)).trans
    (State.tripRequestIf_keepsAngle _ _ _)).trans (State.tripRequestIf_keepsAngle _ _ _))
  split
  · exact .refl s
  · exact s.tripRequest_keepsAngle _

theorem State.actOnDemand_keepsAngle (s : State) : s.KeepsAngle s.actOnDemand := by
  unfold State.actOnDemand State.actDuty State.actRate
  (repeat' split) <;> first | exact s.startIfDue_keepsAngle | exact .of_demand (by simp)

theorem State.handDemandOver_keepsAngle (s : State) (f : Frame) (candidate : Nat) :
    s.KeepsAngle (s.handDemandOver f candidate) := by
  have turned : s.KeepsAngle (s.withDrive { s.drive with dirRecord := frameDirection f }).changeDirection :=
    .of_demand (by simp)
  have settle (a : State) : a.KeepsAngle (a.settleDemand candidate) := ⟨rfl, rfl⟩
  exact (turned.trans (settle _)).trans (State.actOnDemand_keepsAngle _)

/-- The state after the input step of stage 4 (R64 to R68). -/
def State.computing (s : State) (f : Frame) : State := (s.beginMotion f).inputStep f

/-- The state with every request of the computation taken (R54). -/
def State.requested (s : State) (f : Frame) : State :=
  ((s.computing f).raiseMotion ((s.computing f).motion f)).takeRequests
    ((s.beginMotion f).requestsOf f ((s.computing f).motion f))

theorem State.stageMotion_eq (s : State) (f : Frame) : s.stageMotion f =
    ((s.requested f).evaluate.settleContribution ((s.computing f).motion f).contribution).handDemandOver f
      ((s.computing f).motion f).candidate := rfl

theorem State.stageMotion_keepsAngle (s : State) (f : Frame) : (s.computing f).KeepsAngle (s.stageMotion f) := by
  have settle (a : State) (c : Nat) : a.KeepsAngle (a.settleContribution c) := ⟨rfl, rfl⟩
  exact ((((State.raiseMotion_keepsAngle _ _).trans (State.takeRequests_keepsAngle _ _)).trans
    (State.evaluate_keepsAngle _)).trans (settle _ _)).trans (State.handDemandOver_keepsAngle _ f _)

/-! ## The result of the steps and the requests (R54, R64, R82) -/

/-- The result that the claims speak of is the one stage 4 computes. -/
theorem State.stageResult_eq (s : State) (f : Frame) : s.stageResult f = (s.computing f).motion f := by
  have sign : directionSign f = if frameDirection f = .forward then 1 else -1 := by
    unfold directionSign
    cases frameDirection f <;> rfl
  have slot : (s.computing f).slot = s.slot := by simp [State.computing]
  have power : (s.computing f).power = s.power := by simp [State.computing]
  have params : (s.computing f).params = s.params := by simp [State.computing]
  rw [State.stageResult, State.motion, sign, slot, power, params, (s.stageMotion_keepsAngle f).theta]
  rfl

theorem State.freshAngle_congr {s t : State} (joint : t.joint = s.joint) (params : t.params = s.params) :
    t.freshAngle = s.freshAngle := by
  rw [State.freshAngle, State.freshAngle, joint, params]

theorem State.captureRequest_congr {s t : State} (role : t.isEnd = s.isEnd) (joint : t.joint = s.joint)
    (params : t.params = s.params) : t.captureRequest = s.captureRequest := by
  have held : t.heldCount = s.heldCount := by rw [State.heldCount, State.heldCount, joint, params]
  unfold State.captureRequest
  rw [role, State.freshAngle_congr joint params, params, held]

/-- A held angle raises JOINT (R83). -/
theorem State.takeJoint_joint {s : State} (h : s.angleHeld = true) : s.takeJoint.demand.causes.joint = true := by
  simp only [State.angleHeld, Bool.and_eq_true, Bool.not_eq_true', Option.isNone_iff_eq_none] at h
  obtain ⟨mid, none⟩ := h
  simp [State.takeJoint, mid, none, State.takeHeldAngle, State.raiseCondition, Conditions.add]

theorem State.stageMotion_joint {s : State} {f : Frame} (h : (s.beginMotion f).angleHeld = true) :
    (s.stageMotion f).demand.causes.joint = true := by
  rw [(s.stageMotion_keepsAngle f).joint]
  refine State.takeJoint_joint (Eq.trans ?_ h)
  have params : (((((s.beginMotion f).withDemand { (s.beginMotion f).demand with
      causes := Conditions.none }).lookupAngle f).raiseConditionIf (headerFieldBad f) .field)).params =
        (s.beginMotion f).params := by simp
  rw [State.angleHeld, State.angleHeld, State.freshAngle_congr (by simp) params]
  simp

/-- The requests of a computation that requests nothing. -/
def TripRequests.none : TripRequests :=
  { capture := .none, joint := false, overSpeed := false, underSpeed := false, field := false }

theorem State.takeRequests_none (s : State) : s.takeRequests .none = s := rfl

/-- Where the claims' list of requests is empty, stage 4 makes none. -/
theorem State.requestsOf_none {s : State} {f : Frame} (h : s.tripRequests f = []) :
    (s.beginMotion f).requestsOf f ((s.computing f).motion f) = .none := by
  have params : (s.beginMotion f).params = s.params := by simp
  have capture : (s.beginMotion f).captureRequest = s.captureRequest :=
    State.captureRequest_congr (by simp) (by simp) params
  have held := State.stageMotion_joint (s := s) (f := f)
  simp only [State.tripRequests, List.append_eq_nil_iff, Option.toList_eq_nil_iff, ite_eq_right_iff,
    List.cons_ne_nil, imp_false, not_and, State.stageResult_eq] at h
  obtain ⟨⟨⟨⟨none, joint⟩, overs⟩, unders⟩, field⟩ := h
  simp only [State.requestsOf, TripRequests.none, capture, none, params, TripRequests.mk.injEq, true_and,
    Bool.and_eq_false_imp]
  simp only [Bool.not_eq_true] at joint overs unders field
  exact ⟨fun k => joint (held k), overs, unders, field⟩

/-! ## The evaluations of a node that nothing trips (R44 to R46) -/

theorem State.inputActive_congr {s t : State} (params : t.params = s.params) (inputs : t.inputs = s.inputs)
    (i : InputName) : t.inputActive i = s.inputActive i := by
  simp only [State.inputActive, params, inputs]

theorem State.tableState_congr {s t : State} (params : t.params = s.params) (inputs : t.inputs = s.inputs)
    (slot : t.slot = s.slot) (mode : t.ctrl.machineRun = s.ctrl.machineRun) (holds : t.ctrl.holds = s.ctrl.holds) :
    t.tableState = s.tableState := by
  have hand : t.handActive = s.handActive := State.inputActive_congr params inputs .hand
  simp only [State.tableState, hand, params, slot, mode, holds]

theorem State.tableState_serving {s : State} (hand : s.handActive = false) : NodeState.serving s.tableState = true := by
  have manual := State.tableState_ne_manual hand
  unfold State.tableState at manual ⊢
  (repeat' split) <;> simp_all [NodeState.serving]

/-- The first evaluation of a serving node with SAFE active (R46). -/
theorem State.firstEvaluate_of_serving {s : State} (h : NodeState.serving s.ctrl.node = true)
    (safe : s.safeActive = true) : s.firstEvaluate = s.moveTo s.tableState := by
  have plain : s.ctrl.node ≠ .standby false := fun k => by simp [k, NodeState.serving] at h
  have evaluated : s.evaluated = s.tableState := by
    rw [← State.servingState_eq_tableState]
    obtain h | h | h := (NodeState.serving_iff _).1 h <;> simp only [State.evaluated, h]
  have still : (s.moveTo s.tableState).safeActive = true :=
    (State.inputActive_congr (by simp) (by simp) .safe).trans safe
  simp [State.firstEvaluate, plain, evaluated, still]

/-- The first evaluation of stage 4 leaves a serving or plain STANDBY node, HAND inactive and SAFE active, serving. -/
theorem State.beginMotion_serving {s : State} (f : Frame)
    (h : NodeState.serving s.ctrl.node = true ∨ s.ctrl.node = .standby false) (hand : s.handActive = false)
    (safe : s.safeActive = true) : NodeState.serving (s.beginMotion f).ctrl.node = true := by
  have table : s.woken.table = s.table := by unfold State.woken; split <;> rfl
  have inputs : s.woken.inputs = s.inputs := by unfold State.woken; split <;> rfl
  have params := State.params_congr table
  have serving : NodeState.serving s.woken.ctrl.node = true := by
    obtain h | h := h
    · rwa [State.woken_of_not_plain fun k => by simp [k, NodeState.serving] at h]
    · rw [State.woken_of_plain h]
      rfl
  rw [State.beginMotion_woken, State.beginMotion, State.firstEvaluate_of_serving, State.moveTo_ctrl]
  · exact State.tableState_serving ((State.inputActive_congr (s := s) params inputs .hand).trans hand)
  · exact serving
  · exact (State.inputActive_congr (s := s) params inputs .safe).trans safe

/-- Stage 4 leaves a node that nothing trips in the state of the table (R45). -/
theorem State.stageMotion_node_of_no_trip {s : State} {f : Frame}
    (h : NodeState.serving s.ctrl.node = true ∨ s.ctrl.node = .standby false) (hand : s.handActive = false)
    (safe : s.safeActive = true) (none : s.tripRequests f = []) :
    (s.stageMotion f).ctrl.node = (s.stageMotion f).tableState := by
  have requested : s.requested f = (s.computing f).raiseMotion ((s.computing f).motion f) := by
    rw [State.requested, State.requestsOf_none none, State.takeRequests_none]
  have serving : NodeState.serving (s.requested f).ctrl.node = true := by
    rw [requested]
    simpa [State.computing] using State.beginMotion_serving f h hand safe
  have table : (s.stageMotion f).tableState = (s.requested f).tableState :=
    State.tableState_congr (by simp [State.stageMotion_eq]) (by simp [State.stageMotion_eq])
      (by simp [State.stageMotion_eq]) (by simp [State.stageMotion_eq])
      (by simp [State.stageMotion_eq, (State.evaluate_ctrl _).1])
  rw [table, State.stageMotion_eq, State.handDemandOver_ctrl, State.settleContribution_ctrl,
    State.evaluate_of_serving serving, State.moveTo_ctrl]

end Sys2Proof.Machine
end

section
/-! SUPPORT. What the slot situation does in a processing (R23, R25 to R27, R44 to R47, R190), and the obligation about
it. -/

namespace Sys2Proof.Machine

/-! ## Stage 2 by the slot situation (R25, R26) -/

theorem State.indexValid_iff (s : State) :
    s.indexValid = true ↔ 1 ≤ s.power.index.toNat ∧ s.power.index.toNat ≤ 30 := by
  simp [State.indexValid, validIndex]

theorem State.indexValid_of_invalid {s : State} (h : s.power.index.toNat = 0 ∨ s.power.index.toNat = 31) :
    s.indexValid = false := by
  rw [← Bool.not_eq_true, State.indexValid_iff]
  omega

theorem State.ownsSlot_of_present {s : State} {f : Frame} (valid : s.indexValid = true)
    (present : s.power.index.toNat ≤ frameSlots f) :
    s.ownsSlot f = !slotMarker f s.power.index.toNat := by
  simp [State.ownsSlot, State.slotPresent, valid, State.indexNat, present]

theorem State.ownsSlot_of_absent {s : State} {f : Frame}
    (h : s.indexValid = false ∨ frameSlots f < s.power.index.toNat) : s.ownsSlot f = false := by
  have absent : s.slotPresent f = false := by
    obtain h | h := h
    · simp [State.slotPresent, h]
    · simp [State.slotPresent, State.indexNat, show ¬s.power.index.toNat ≤ frameSlots f by omega]
  simp [State.ownsSlot, absent]

theorem State.stageLocate_of_invalid {s : State} {f : Frame} (h : s.indexValid = false) :
    s.stageLocate f = s.raise .strap := by
  simp [State.stageLocate, h]

theorem State.stageLocate_of_absent {s : State} {f : Frame} (valid : s.indexValid = true)
    (absent : frameSlots f < s.power.index.toNat) :
    s.stageLocate f = s.setHolds { s.ctrl.holds with noSlot := true } := by
  rw [State.stageLocate, if_pos valid, if_neg (by rw [State.indexNat]; omega)]

theorem State.stageLocate_of_owned {s : State} {f : Frame} (valid : s.indexValid = true)
    (present : s.power.index.toNat ≤ frameSlots f) (clear : slotMarker f s.power.index.toNat = false) :
    s.stageLocate f = s.setHolds { s.ctrl.holds with noSlot := false } := by
  rw [State.stageLocate, if_pos valid, State.indexNat, if_pos present, if_neg (by simp [clear])]

theorem State.stageLocate_of_marked {s : State} {f : Frame} (valid : s.indexValid = true)
    (present : s.power.index.toNat ≤ frameSlots f) (marked : slotMarker f s.power.index.toNat = true) :
    s.stageLocate f = (s.raise .strap).enterStrapFault := by
  rw [State.stageLocate, if_pos valid, State.indexNat, if_pos present, if_pos marked]

/-- The state that stage 1 leaves in the processing of `f`. -/
def State.swapped (s : State) (f : Frame) : State := (s.takeOutbound f).stageSwap f

theorem State.located_eq (s : State) (f : Frame) : s.located f = (s.swapped f).stageLocate f := rfl

@[simp] theorem State.swapped_power (s : State) (f : Frame) : (s.swapped f).power = s.power := by
  simp [State.swapped]

theorem State.swapped_indexValid (s : State) (f : Frame) : (s.swapped f).indexValid = s.indexValid :=
  State.indexValid_congr (s.swapped_power f)

/-- CHAIN enters by the node's rules (R38). -/
theorem State.enterChain_follows (s : State) (opener : Bool) : s.Follows [] (s.enterChain opener) := by
  have noted (b : Bool) (e : Event) : s.Follows [] (s.raiseIf b e) := by
    cases b
    · exact .refl _ s
    · exact (State.Reacts.of_ctrl (by simp) (fun law => by simpa [State.DriveLaw] using law) (s.raise_onlyRaises e)
        fun _ h => absurd h List.not_mem_nil).toFollows
  unfold State.enterChain
  split
  · exact .refl _ s
  · exact (noted _ _).trans ((State.setHolds_follows _ _).mono nofun)

theorem State.takeOutbound_follows (s : State) (f : Frame) : s.Follows [] (s.takeOutbound f) := by
  have checked := (s.checked_follows f).mono (small := []) nofun
  rw [State.takeOutbound_eq]
  split
  · exact checked.trans (State.enterChain_follows _ _)
  · exact checked

/-- Up to stage 2 a node in STANDBY stays there, and the drive output keeps its law (R44, R132). -/
theorem State.swapped_follows (s : State) (f : Frame) : s.Follows [] (s.swapped f) :=
  (s.takeOutbound_follows f).trans ((State.stageSwap_follows _ f).mono nofun)

/-! ## The command record and NO_SLOT after stage 4 (R25, R27) -/

theorem State.throughMotion_slot (s : State) (f : Frame) :
    (s.throughMotion f).slot = ((s.located f).stageCommand f (s.ownsSlot f)).slot := by
  simp [State.throughMotion_eq]

theorem State.throughMotion_record_of_not_owned {s : State} {f : Frame} (h : s.ownsSlot f = false) :
    (s.throughMotion f).slot.runPermit = false ∧ (s.throughMotion f).slot.haltPass = false := by
  rw [State.throughMotion_slot, h]
  exact ⟨rfl, rfl⟩

theorem State.throughMotion_record_of_owned {s : State} {f : Frame} (h : s.ownsSlot f = true) :
    (s.throughMotion f).slot.runPermit = (slotCommand f s.indexNat).getLsbD 0
      ∧ (s.throughMotion f).slot.haltPass = (slotCommand f s.indexNat).getLsbD 2 := by
  have record (a : State) : (a.stageCommand f true).slot = (a.commanded f).slot := by
    rw [State.stageCommand_of_owned]
    split <;> simp
  rw [State.throughMotion_slot, h, record]
  simp [State.commanded]

theorem State.throughMotion_holds (s : State) (f : Frame) :
    (s.throughMotion f).ctrl.holds = (s.located f).ctrl.holds := by
  rw [State.throughMotion_eq, State.stageMotion_holds, State.stageCommand_holds]

/-! ## Strap fault (R26, R47) -/

/-- Entering strap fault discards the trip record and leaves the drive at rest (R47, R131, R132). -/
theorem State.enterStrapFault_rests {s : State} (law : s.DriveLaw) :
    s.enterStrapFault.ctrl.node = .standby true ∧ s.enterStrapFault.ctrl.trip = none
      ∧ DriveState.energizes s.enterStrapFault.drive.st = false ∧ s.enterStrapFault.drive.st ≠ .faulted := by
  have moved : ((s.withTrip none).moveTo (.standby true)).DriveLaw := State.moveTo_driveLaw _ _ law
  have off : DriveState.energizes ((s.withTrip none).moveTo (.standby true)).drive.st = false :=
    moved (by simp) (by simp)
  unfold State.enterStrapFault
  simp only
  split
  · simp [State.withTrip, DriveState.energizes]
  · next h => exact ⟨by simp, by simp [State.withTrip], off, h⟩

/-- Stage 4 finds a node in strap fault with nothing to evaluate: of its drive it writes the direction record alone
(R47, R122). -/
theorem State.stageMotion_drive_of_strapFault {s : State} (f : Frame) (h : s.ctrl.node = .standby true) :
    (s.stageMotion f).drive = { s.drive with dirRecord := frameDirection f } := by
  have first (a : State) (ha : a.ctrl.node = .standby true) : a.firstEvaluate = a := by
    have stays : a.evaluated = .standby true := by simp [State.evaluated, ha]
    have moved : a.moveTo (.standby true) = a := by rw [← ha, State.moveTo_self]
    simp [State.firstEvaluate, ha, stays, moved, NodeState.serving]
  have request (a : State) (ha : a.ctrl.node = .standby true) (cause : TripCause) : a.tripRequest cause = a := by
    simp [State.tripRequest, ha]
  have requests (a : State) (ha : a.ctrl.node = .standby true) (r : TripRequests) : a.takeRequests r = a := by
    have requestIf (b : Bool) (cause : TripCause) : a.tripRequestIf b cause = a := by
      cases b
      · rfl
      · exact request a ha cause
    unfold State.takeRequests
    split <;> simp [request a ha, requestIf]
  have begun : (s.beginMotion f) = s.withCtrl { s.ctrl with machineRun := frameMachineRun f } := first _ h
  have node : ((s.computing f).raiseMotion ((s.computing f).motion f)).ctrl.node = .standby true := by
    simpa [State.computing, begun] using h
  rw [State.stageMotion_eq, State.requested, requests _ node, State.evaluate_of_standby _ _ node]
  simp [State.handDemandOver, State.changeDirection, State.actOnDemand, State.computing, begun, h]

theorem State.actOnDemand_d (s : State) : s.actOnDemand.demand.d = s.demand.d := by
  unfold State.actOnDemand State.actDuty State.actRate
  (repeat' split) <;> simp

/-- Outside RUN the demand is 0 (R75). -/
theorem State.stageMotion_d_of_not_run {s : State} {f : Frame} (h : (s.stageMotion f).ctrl.node ≠ .run) :
    (s.stageMotion f).demand.d = 0 := by
  rw [State.stageMotion_eq, State.handDemandOver_ctrl, State.settleContribution_ctrl] at h
  rw [State.stageMotion_eq, State.handDemandOver, State.actOnDemand_d]
  simp [State.settleDemand, h]

/-! ## A node in STANDBY through the processing (R44, R46, R47) -/

theorem State.stageCommand_of_standby {s : State} (f : Frame) (owned : Bool) {b : Bool}
    (h : s.ctrl.node = .standby b) :
    (s.stageCommand f owned).ctrl.node = .standby b ∧ (s.stageCommand f owned).ctrl.trip = s.ctrl.trip := by
  cases owned
  · exact ⟨h, rfl⟩
  · have ctrl : (s.commanded f).ctrl = s.ctrl := by simp [State.commanded]
    have kept := (s.stageCommand_reacts_commanded f).standby b (by rw [ctrl, h])
    rwa [ctrl] at kept

theorem State.stageMotion_of_strapFault {s : State} (f : Frame) (h : s.ctrl.node = .standby true) :
    (s.stageMotion f).ctrl.node = .standby true ∧ (s.stageMotion f).ctrl.trip = s.ctrl.trip := by
  have kept := s.stageMotion_reacts f
  rw [State.woken_of_not_plain (by simp [h])] at kept
  exact kept.standby true h

/-- The stages after stage 4 leave a node in strap fault as it is (R33, R38, R109). -/
theorem State.stageChain_follows (s : State) (f : Frame) : s.Follows [] (s.stageChain f) := by
  have record (x : SlotBlock) : s.Follows [] (s.withSlot x) :=
    (State.Reacts.of_quiet (s := s) (t := s.withSlot x) rfl id rfl).toFollows
  unfold State.stageChain
  split
  · exact (record _).trans (State.enterChain_follows _ _)
  · exact record _

theorem State.turnAround_follows (s : State) (ceiling : Nat) (chainOpen : Bool) :
    s.Follows [] (s.turnAround ceiling chainOpen) := by
  have latch (x : SlotBlock) : s.Follows [] (s.withSlot x) :=
    (State.Reacts.of_quiet (s := s) (t := s.withSlot x) rfl id rfl).toFollows
  unfold State.turnAround
  split
  · exact (latch _).trans (State.enterChain_follows _ _)
  · exact (latch _).trans ((State.setHolds_follows _ _).mono nofun)

theorem State.endStages_follows (s : State) (ceiling : Nat) (chainOpen : Bool) :
    s.Follows [] (s.endStages ceiling chainOpen) := by
  have stall := s.stallTest_reacts.toFollows.mono (small := []) nofun
  have ready (a : State) := a.takeReady_reacts.toFollows.mono (small := []) nofun
  unfold State.endStages
  split
  · exact (stall.trans (State.turnAround_follows _ _ _)).trans (ready _)
  · exact stall.trans (ready _)

theorem State.processFrame_of_strapFault {s : State} {f : Frame}
    (h : (s.throughMotion f).ctrl.node = .standby true) :
    (s.processFrame f).1.ctrl.node = .standby true
      ∧ (s.processFrame f).1.ctrl.trip = (s.throughMotion f).ctrl.trip := by
  obtain ⟨node, trip⟩ := ((s.throughMotion f).stageChain_follows f).standby true h
  have ctrl : (s.afterService f).ctrl = ((s.throughMotion f).stageChain f).ctrl := s.afterService_ctrl f
  rw [State.processFrame_fst, ← trip, ← ctrl]
  exact (State.endStages_follows _ _ _).standby true (by rw [ctrl, node])

/-- An event other than PROFILE that stage 4 left stands when the processing is over. -/
theorem State.processFrame_hasEvent {s : State} {f : Frame} {e : Event} (ne : e ≠ .profile)
    (h : hasEvent (s.throughMotion f).events.flags e = true) : hasEvent (s.processFrame f).1.events.flags e = true := by
  obtain ⟨-, -, chain⟩ := ((s.throughMotion f).stageChain_follows f).raises
  obtain ⟨-, -, ending⟩ := (s.afterService f).endStages_onlyRaises ((s.throughMotion f).outgoingCeiling f)
    (frameChainOpen (s.frameThroughChain f))
  rw [State.processFrame_fst]
  refine ending e ?_
  rw [State.afterService, State.stageService_hasEvent _ _ ne]
  exact chain e h

/-- Without an owned slot no flag is cleared: STRAP as stage 2 raised it stands after stage 4 (R25, R26, R184). -/
theorem State.throughMotion_hasEvent_strap {s : State} {f : Frame} (h : s.ownsSlot f = false) :
    hasEvent (s.throughMotion f).events.flags .strap = hasEvent (s.located f).events.flags .strap := by
  rw [State.throughMotion_eq, State.stageMotion_hasEvent _ f (by decide),
    State.stageCommand_hasEvent _ f _ (by decide), h]
  simp

/-! ## The obligation, by the slot situation -/

theorem State.throughMotion_of_absent_slot {s : State} {f : Frame} (valid : s.indexValid = true)
    (absent : frameSlots f < s.power.index.toNat) :
    (s.throughMotion f).ctrl.holds.noSlot = true ∧ (s.throughMotion f).slot.runPermit = false
      ∧ (s.throughMotion f).slot.haltPass = false := by
  refine ⟨?_, State.throughMotion_record_of_not_owned (State.ownsSlot_of_absent (.inr absent))⟩
  rw [State.throughMotion_holds, State.located_eq,
    State.stageLocate_of_absent ((s.swapped_indexValid f).trans valid) (by simpa using absent), State.setHolds_holds]

theorem State.throughMotion_of_owned_slot {s : State} {f : Frame} (valid : s.indexValid = true)
    (present : s.power.index.toNat ≤ frameSlots f) (clear : slotMarker f s.power.index.toNat = false) :
    (s.throughMotion f).ctrl.holds.noSlot = false
      ∧ (s.throughMotion f).slot.runPermit = (slotCommand f s.power.index.toNat).getLsbD 0
      ∧ (s.throughMotion f).slot.haltPass = (slotCommand f s.power.index.toNat).getLsbD 2 := by
  refine ⟨?_, State.throughMotion_record_of_owned
    (by rw [State.ownsSlot_of_present valid present, clear]; rfl)⟩
  rw [State.throughMotion_holds, State.located_eq,
    State.stageLocate_of_owned ((s.swapped_indexValid f).trans valid) (by simpa using present) (by simpa using clear),
    State.setHolds_holds]

theorem State.throughMotion_of_marked_slot {s : State} {f : Frame} (valid : s.indexValid = true)
    (present : s.power.index.toNat ≤ frameSlots f) (marked : slotMarker f s.power.index.toNat = true)
    (law : s.DriveLaw) :
    (s.throughMotion f).ctrl.node = .standby true ∧ (s.throughMotion f).ctrl.trip = none
      ∧ (s.throughMotion f).demand.d = 0 ∧ (s.throughMotion f).demand.c = 0
      ∧ DriveState.energizes (s.throughMotion f).drive.st = false ∧ (s.throughMotion f).drive.st ≠ .faulted
      ∧ hasEvent (s.throughMotion f).events.flags .strap = true ∧ (s.throughMotion f).slot.runPermit = false := by
  have notOwned : s.ownsSlot f = false := by rw [State.ownsSlot_of_present valid present, marked]; rfl
  have located : s.located f = ((s.swapped f).raise .strap).enterStrapFault :=
    State.stageLocate_of_marked ((s.swapped_indexValid f).trans valid) (by simpa using present) (by simpa using marked)
  have motion : s.throughMotion f = ((s.located f).stageCommand f false).stageMotion f := by
    rw [State.throughMotion_eq, notOwned]
  have raised : ((s.swapped f).raise .strap).DriveLaw := (s.swapped_follows f).drive law
  obtain ⟨node, trip, off, notFaulted⟩ := State.enterStrapFault_rests raised
  rw [← located] at node trip off notFaulted
  have node' : ((s.located f).stageCommand f false).ctrl.node = .standby true := node
  obtain ⟨node4, trip4⟩ := State.stageMotion_of_strapFault f node'
  have drive4 := State.stageMotion_drive_of_strapFault f node'
  have notRun : (((s.located f).stageCommand f false).stageMotion f).ctrl.node ≠ .run := by simp [node4]
  refine ⟨by rw [motion, node4], by rw [motion, trip4]; exact trip,
    by rw [motion, State.stageMotion_d_of_not_run notRun], by rw [motion, State.stageMotion_c_of_not_run notRun],
    by rw [motion, drive4]; exact off, by rw [motion, drive4]; exact notFaulted, ?_,
    (State.throughMotion_record_of_not_owned notOwned).1⟩
  rw [State.throughMotion_hasEvent_strap notOwned, located,
    State.enterStrapFault_hasEvent _ (outsideEvaluation_of_turnEvents (by decide)), State.hasEvent_raise_self]

theorem State.throughMotion_of_invalid_index {s : State} (f : Frame) (h : s.indexValid = false) :
    hasEvent (s.throughMotion f).events.flags .strap = true
      ∧ (s.ctrl.node = .standby true → (s.throughMotion f).ctrl.node = .standby true
          ∧ (s.throughMotion f).ctrl.trip = s.ctrl.trip) := by
  have located : s.located f = (s.swapped f).raise .strap :=
    State.stageLocate_of_invalid ((s.swapped_indexValid f).trans h)
  refine ⟨?_, fun node => ?_⟩
  · rw [State.throughMotion_hasEvent_strap (State.ownsSlot_of_absent (.inl h)), located, State.hasEvent_raise_self]
  · obtain ⟨node1, trip1⟩ := (s.swapped_follows f).standby true node
    obtain ⟨node3, trip3⟩ := State.stageCommand_of_standby (s := s.located f) f (s.ownsSlot f) (b := true)
      (by simpa [located] using node1)
    obtain ⟨node4, trip4⟩ := State.stageMotion_of_strapFault f node3
    rw [State.throughMotion_eq]
    refine ⟨node4, ?_⟩
    rw [trip4, trip3, located, State.raise_ctrl, trip1]

/-- A node in plain STANDBY that no marked slot of its own meets leaves it in stage 4 (R46). -/
theorem State.throughMotion_of_plain_standby {s : State} {f : Frame} (h : s.ctrl.node = .standby false)
    (valid : s.indexValid = true)
    (clear : s.power.index.toNat ≤ frameSlots f → slotMarker f s.power.index.toNat = false) (b : Bool) :
    (s.throughMotion f).ctrl.node ≠ .standby b := by
  have valid' : (s.swapped f).indexValid = true := (s.swapped_indexValid f).trans valid
  obtain ⟨node1, -⟩ := (s.swapped_follows f).standby false h
  have node2 : (s.located f).ctrl.node = .standby false := by
    by_cases present : s.power.index.toNat ≤ frameSlots f
    · rw [State.located_eq, State.stageLocate_of_owned valid' (by simpa using present) (by simpa using clear present)]
      exact ((State.setHolds_follows _ _).standby false node1).1
    · rw [State.located_eq, State.stageLocate_of_absent valid' (by simpa using present)]
      exact ((State.setHolds_follows _ _).standby false node1).1
  obtain ⟨node3, -⟩ := State.stageCommand_of_standby f (s.ownsSlot f) node2
  rw [State.throughMotion_eq]
  refine (State.stageMotion_reacts _ f).awake (fun b => ?_) b
  rw [State.woken_of_plain node3]
  simp [State.withNode]

/-- Settles O20: each slot situation by its own lemma, and the state of the table by stage 4's. -/
theorem slotSituationDecides : Obligations.SlotSituationDecides := by
  refine ⟨fun f s low high => ?_, fun f s invalid => ?_, fun f s plain low high clear => ?_, fun f s => ?_⟩
  · have valid : s.indexValid = true := s.indexValid_iff.2 ⟨low, high⟩
    exact ⟨State.throughMotion_of_absent_slot valid, State.throughMotion_of_owned_slot valid,
      State.throughMotion_of_marked_slot valid⟩
  · have invalid' := State.indexValid_of_invalid invalid
    have notOwned : s.ownsSlot f = false := State.ownsSlot_of_absent (.inl invalid')
    obtain ⟨permit, pass⟩ := State.throughMotion_record_of_not_owned notOwned
    obtain ⟨strap, standby⟩ := State.throughMotion_of_invalid_index f invalid'
    refine ⟨notOwned, permit, pass, strap, State.processFrame_hasEvent (by decide) strap, fun node => ?_⟩
    obtain ⟨node4, trip4⟩ := standby node
    obtain ⟨node9, trip9⟩ := State.processFrame_of_strapFault node4
    exact ⟨node4, node9, trip9.trans trip4⟩
  · have valid : s.indexValid = true := s.indexValid_iff.2 ⟨low, high⟩
    exact ⟨State.throughMotion_of_plain_standby plain valid clear false,
      State.throughMotion_of_plain_standby plain valid clear true⟩
  · refine ⟨rfl, (s.throughMotion_records f).1, fun node hand safe none => ?_⟩
    refine State.stageMotion_node_of_no_trip ?_ hand safe none
    obtain h | h | h | h := node <;> simp [h, NodeState.serving]

end Sys2Proof.Machine
end

section
/-! SUPPORT. What a profile swap does to each input (R178): its sample run, and the turn of its reading. The inputs act
in the order of log 10; what an earlier one leaves is carried to a later one by the relation `State.Reacts` and by the
pins, which a swap does not change. -/

namespace Sys2Proof.Machine

/-! ## Inputs one at a time (R175) -/

theorem PerInput.get_put {α : Type} (x : PerInput α) (i j : InputName) (v : α) :
    PerInput.get (PerInput.put x i v) j = if j = i then v else PerInput.get x j := by
  cases i <;> cases j <;> rfl

/-- The other polarity reads an established pin the other way. -/
theorem pinActive_of_ne {a b : Bool} (h : a ≠ b) (level : Level) :
    pinActive b (some level) = !pinActive a (some level) := by
  obtain rfl : b = !a := Bool.eq_not_of_ne h.symm
  cases a <;> cases level <;> rfl

/-- An input reads by its polarity and its filtered pin level alone. -/
theorem State.inputActive_of_pin {s t : State} {i : InputName}
    (polarity : PerInput.get t.params.inputPolarity i = PerInput.get s.params.inputPolarity i)
    (pin : (PerInput.get t.inputs i).pin = (PerInput.get s.inputs i).pin) : t.inputActive i = s.inputActive i := by
  rw [State.inputActive, State.inputActive, polarity, pin]

/-- An input that reads as active is established. -/
theorem State.pin_ne_none_of_active {s : State} {i : InputName} (h : s.inputActive i = true) :
    (PerInput.get s.inputs i).pin ≠ none := by
  intro unestablished
  simp [State.inputActive, pinActive, unestablished] at h

/-! ## The sample run of an input at a swap -/

/-- `s` with the sample run of an input emptied when the swap from `old` changes its filter (R178). -/
def State.refiltered (s : State) (old : Params) (i : InputName) : State :=
  if PerInput.get old.inputFilter i = PerInput.get s.params.inputFilter i then s
  else s.withInput i { PerInput.get s.inputs i with samples := none }

theorem State.refiltered_frame (s : State) (old : Params) (i : InputName) :
    State.SameOutside [.inputs] s (s.refiltered old i) := by
  unfold State.refiltered
  split
  · exact .refl _ s
  · exact State.withInput_frame _ _ _

@[simp] theorem State.refiltered_ctrl (s : State) (old : Params) (i : InputName) :
    (s.refiltered old i).ctrl = s.ctrl := s.refiltered_frame old i .ctrl (by decide)

@[simp] theorem State.refiltered_drive (s : State) (old : Params) (i : InputName) :
    (s.refiltered old i).drive = s.drive := s.refiltered_frame old i .drive (by decide)

@[simp] theorem State.refiltered_line (s : State) (old : Params) (i : InputName) :
    (s.refiltered old i).line = s.line := s.refiltered_frame old i .line (by decide)

@[simp] theorem State.refiltered_events (s : State) (old : Params) (i : InputName) :
    (s.refiltered old i).events = s.events := s.refiltered_frame old i .events (by decide)

@[simp] theorem State.refiltered_params (s : State) (old : Params) (i : InputName) :
    (s.refiltered old i).params = s.params := State.params_congr (s.refiltered_frame old i .table (by decide))

/-- What the swap leaves of an input: all but the sample run, which a changed filter empties. -/
def InputState.afterSwap (x : InputState) (sameFilter : Bool) : InputState :=
  { x with samples := if sameFilter then x.samples else none }

theorem State.refiltered_get (s : State) (old : Params) (i j : InputName) :
    PerInput.get (s.refiltered old i).inputs j =
      if j = i then InputState.afterSwap (PerInput.get s.inputs j)
        (decide (PerInput.get old.inputFilter j = PerInput.get s.params.inputFilter j))
      else PerInput.get s.inputs j := by
  by_cases ji : j = i
  · subst ji
    by_cases same : PerInput.get old.inputFilter j = PerInput.get s.params.inputFilter j
    · simp [State.refiltered, InputState.afterSwap, same]
    · simp [State.refiltered, InputState.afterSwap, same, State.withInput, PerInput.get_put]
  · unfold State.refiltered
    split <;> simp [ji, State.withInput, PerInput.get_put]

theorem State.refiltered_inputActive (s : State) (old : Params) (i j : InputName) :
    (s.refiltered old i).inputActive j = s.inputActive j := by
  refine State.inputActive_of_pin (by simp) ?_
  rw [State.refiltered_get]
  split <;> rfl

/-! ## The turn of an input at a swap -/

/-- An input that keeps its polarity, or is not established, does not turn. -/
theorem State.inputAtSwap_of_steady {s : State} {old : Params} {i : InputName}
    (h : PerInput.get old.inputPolarity i = PerInput.get s.params.inputPolarity i
      ∨ (PerInput.get s.inputs i).pin = none) : s.inputAtSwap old i = s.refiltered old i := by
  unfold State.inputAtSwap
  exact if_pos h

/-- The swap from `old` turns an established input over (R178). -/
def State.Turns (s : State) (old : Params) (i : InputName) : Prop :=
  PerInput.get old.inputPolarity i ≠ PerInput.get s.params.inputPolarity i ∧ (PerInput.get s.inputs i).pin ≠ none

theorem State.Turns.not_steady {s : State} {old : Params} {i : InputName} (h : s.Turns old i) :
    ¬(PerInput.get old.inputPolarity i = PerInput.get s.params.inputPolarity i
      ∨ (PerInput.get s.inputs i).pin = none) :=
  not_or.2 h

theorem State.Turns.safe {s : State} {old : Params} (h : s.Turns old .safe) :
    s.inputAtSwap old .safe = (s.refiltered old .safe).safeTurn (s.inputActive .safe) := by
  rw [← s.refiltered_inputActive old .safe, State.inputAtSwap]
  exact if_neg h.not_steady

theorem State.Turns.drdy {s : State} {old : Params} (h : s.Turns old .drdy) :
    s.inputAtSwap old .drdy = (s.refiltered old .drdy).drdyChange (s.inputActive .drdy) := by
  rw [← s.refiltered_inputActive old .drdy, State.inputAtSwap]
  exact if_neg h.not_steady

theorem State.Turns.aux {s : State} {old : Params} (h : s.Turns old .aux) (edge : old.auxEdge = s.params.auxEdge) :
    s.inputAtSwap old .aux =
      (s.refiltered old .aux).raiseIf (AuxEdge.selects old.auxEdge (s.inputActive .aux)) .aux := by
  have judged : (s.refiltered old .aux).auxTurnEdge old.auxEdge = old.auxEdge := by
    simp [State.auxTurnEdge, edge]
  have turn : s.inputAtSwap old .aux = (s.refiltered old .aux).raiseIf
      (AuxEdge.selects ((s.refiltered old .aux).auxTurnEdge old.auxEdge) ((s.refiltered old .aux).inputActive .aux))
      .aux := if_neg h.not_steady
  rw [turn, judged, s.refiltered_inputActive old .aux]

/-- A turn leaves the pins and, of the sample runs, changes that of its own input (R178). -/
theorem State.inputAtSwap_inputs (s : State) (old : Params) (i : InputName) :
    (s.inputAtSwap old i).inputs = (s.refiltered old i).inputs := by
  unfold State.inputAtSwap
  simp only
  split
  · rfl
  · cases i <;> simp [State.refiltered]

theorem State.inputAtSwap_inputActive (s : State) (old : Params) (i j : InputName) :
    (s.inputAtSwap old i).inputActive j = s.inputActive j := by
  rw [← s.refiltered_inputActive old i j]
  exact State.inputActive_congr (by simp) (s.inputAtSwap_inputs old i) j

/-- An input still turns after another has acted. -/
theorem State.Turns.afterInput {s : State} {old : Params} {i : InputName} (h : s.Turns old i) (j : InputName) :
    (s.inputAtSwap old j).Turns old i := by
  refine ⟨by simpa using h.1, ?_⟩
  rw [State.inputAtSwap_inputs, State.refiltered_get]
  split
  · exact h.2
  · exact h.2

theorem State.turnsBeforeAux_inputActive (s : State) (old : Params) (j : InputName) :
    (s.turnsBeforeAux old).inputActive j = s.inputActive j := by
  simp [State.turnsBeforeAux, State.inputAtSwap_inputActive]

theorem State.inputsAtSwap_get (s : State) (old : Params) (i : InputName) :
    PerInput.get (s.inputsAtSwap old).inputs i = InputState.afterSwap (PerInput.get s.inputs i)
      (decide (PerInput.get old.inputFilter i = PerInput.get s.params.inputFilter i)) := by
  have requested : (s.inputsAtSwap old).inputs = (s.inputTurns old).inputs := by simp [State.inputsAtSwap]
  rw [requested]
  cases i <;> simp [State.inputTurns, State.inputAtSwap_inputs, State.refiltered_get]

/-- With every polarity kept the inputs change their sample runs alone (R178). -/
theorem State.inputsAtSwap_of_steady {s : State} {old : Params} (h : old.inputPolarity = s.params.inputPolarity) :
    (s.inputsAtSwap old).ctrl = s.ctrl ∧ (s.inputsAtSwap old).drive = s.drive := by
  have turn (a : State) (i : InputName) (params : a.params = s.params) :
      a.inputAtSwap old i = a.refiltered old i :=
    State.inputAtSwap_of_steady (.inl (by rw [params, h]))
  have turns : s.inputTurns old = ((((((s.refiltered old .safe).refiltered old .hand).refiltered old .jogF).refiltered
      old .jogR).refiltered old .drdy).refiltered old .aux) := by
    simp [State.inputTurns, turn]
  have waits : s.safeWaits old = false := by simp [State.safeWaits, h]
  have settled : s.inputsAtSwap old = s.inputTurns old := by
    simp [State.inputsAtSwap, waits, State.tripRequestIf]
  simp [settled, turns]

/-! ## SAFE and DRDY turned inactive (R55, R130, R178) -/

/-- SAFE turned inactive in a serving state or in LOCAL raises SAFETY at the swap (log 11). -/
theorem State.safeTurn_raises {s : State} (h : NodeState.serving s.ctrl.node = true ∨ s.ctrl.node = .manual) :
    hasEvent (s.safeTurn false).events.flags .safety = true := by
  obtain h | h := h
  · rw [State.safeTurn, if_pos ⟨rfl, h⟩, State.hasEvent_raise_self]
  · simp [State.safeTurn, State.safeChange, h, NodeState.serving, State.hasEvent_raise_self]

theorem State.inputsAtSwap_raises_safety {s : State} {old : Params}
    (h : NodeState.serving s.ctrl.node = true ∨ s.ctrl.node = .manual)
    (turns : s.Turns old .safe)
    (inactive : s.inputActive .safe = false) :
    hasEvent (s.inputsAtSwap old).events.flags .safety = true := by
  have first : hasEvent (s.inputAtSwap old .safe).events.flags .safety = true := by
    rw [turns.safe, inactive]
    exact State.safeTurn_raises (by simpa using h)
  have turn (a : State) (i : InputName) (hi : i ≠ .aux) : State.OnlyRaises a (a.inputAtSwap old i) :=
    (a.inputAtSwap_reacts old hi).raises
  have later : State.OnlyRaises (s.inputAtSwap old .safe) (s.inputsAtSwap old) :=
    (((((turn _ .hand (by decide)).trans (turn _ .jogF (by decide))).trans (turn _ .jogR (by decide))).trans
      (turn _ .drdy (by decide))).trans (State.inputAtSwap_aux_reacts _ old).raises).trans
        (State.tripRequestIf_reacts _ _ _).raises
  exact later.2.2 .safety first

/-- A jog input does nothing at a node that is not LOCAL and whose drive is not OFF (R136). -/
theorem State.jogChange_of_not_manual {s : State} (node : s.ctrl.node ≠ .manual) (drive : s.drive.st ≠ .off)
    (nowActive : Bool) : s.jogChange nowActive = s := by
  simp [State.jogChange, node, drive]

/-- The turn of a jog input leaves the node and the drive of such a node (R136, R178). -/
theorem State.inputAtSwap_jog_of_not_manual {s : State} {old : Params} {i : InputName} (hi : i = .jogF ∨ i = .jogR)
    (node : s.ctrl.node ≠ .manual) (drive : s.drive.st ≠ .off) : s.inputAtSwap old i = s.refiltered old i := by
  have jog (a : Bool) : (s.refiltered old i).jogChange a = s.refiltered old i :=
    State.jogChange_of_not_manual (by simpa using node) (by simpa using drive) a
  unfold State.inputAtSwap
  simp only
  split
  · rfl
  · obtain rfl | rfl := hi
    · exact jog _
    · exact jog _

theorem State.moveTo_moveTo_self (s : State) (n : NodeState) : (s.moveTo n).moveTo n = s.moveTo n := by
  have self := (s.moveTo n).moveTo_self
  rwa [show (s.moveTo n).ctrl.node = n by simp] at self

/-- With HAND inactive the evaluation that follows a trip leaves the node TRIPPED (R44, R52). -/
theorem State.tripRequest_eq_of_serving {s : State} {cause : TripCause} (hs : NodeState.serving s.ctrl.node = true)
    (hand : s.handActive = false) :
    s.tripRequest cause = (s.withTrip (some (s.newTrip cause))).moveTo .tripped := by
  have still : ((s.withTrip (some (s.newTrip cause))).moveTo .tripped).evaluated = .tripped := by
    have hand' : ((s.withTrip (some (s.newTrip cause))).moveTo .tripped).handActive = false := by
      rw [State.handActive_congr (s := s) (by simp) (by simp), hand]
    simp [State.evaluated, hand']
  obtain h | h | h := (NodeState.serving_iff _).1 hs <;>
    simp [State.tripRequest, h, still, State.moveTo_moveTo_self]

/-- A trip leaves a faulted drive faulted (R52, R132). -/
theorem State.moveTo_tripped_faulted {s : State} (h : s.drive.st = .faulted) :
    (s.moveTo .tripped).drive.st = .faulted := by
  have stopped (a : State) (ha : a.drive.st = .faulted) : a.driveStop = a := by simp [State.driveStop, ha]
  unfold State.moveTo
  simp only
  split
  · exact h
  · by_cases run : s.ctrl.node = .run <;> simp [run, stopped, h, State.dropDemand]

/-- DRIVE_FAULT in a serving state with HAND inactive (R52, R130). -/
theorem State.faultDrive_of_serving {s : State} (hs : NodeState.serving s.ctrl.node = true)
    (hand : s.handActive = false) :
    s.faultDrive.ctrl.node = .tripped
      ∧ s.faultDrive.ctrl.trip = some { cause := .driveFault, seq := s.line.lastOut, extra := 0 }
      ∧ s.faultDrive.drive.st = .faulted ∧ hasEvent s.faultDrive.events.flags .driveFault = true := by
  have serving : NodeState.serving
      ((s.withDrive (DriveBlock.stoppedAt s.drive .faulted)).raise .driveFault).ctrl.node = true := hs
  obtain ⟨node, trip⟩ := State.tripRequest_of_serving (cause := .driveFault) serving hand
  rw [State.faultDrive_eq]
  refine ⟨node, trip, ?_, ?_⟩
  · rw [State.tripRequest_eq_of_serving serving hand]
    exact State.moveTo_tripped_faulted rfl
  · exact (State.tripRequest_onlyRaises _ _).2.2 .driveFault (State.hasEvent_raise_self _ _)

/-- The turns of SAFE to JOG_R in RUN with HAND steady and the drive RUNNING leave the node and its drive (R136,
R178). -/
theorem State.turnsBeforeDrdy_of_running {s : State} {old : Params}
    (safe : s.Turns old .safe) (safeOff : s.inputActive .safe = false)
    (handSteady : PerInput.get old.inputPolarity .hand = PerInput.get s.params.inputPolarity .hand)
    (node : s.ctrl.node = .run) (drive : s.drive.st = .running) :
    let b := (((s.inputAtSwap old .safe).inputAtSwap old .hand).inputAtSwap old .jogF).inputAtSwap old .jogR
    b.ctrl = s.ctrl ∧ b.drive = s.drive := by
  have first : s.inputAtSwap old .safe = (s.refiltered old .safe).raise .safety := by
    rw [safe.safe, safeOff, State.safeTurn,
      if_pos ⟨rfl, by simp [node, NodeState.serving]⟩]
  have hand : (s.inputAtSwap old .safe).inputAtSwap old .hand = (s.inputAtSwap old .safe).refiltered old .hand :=
    State.inputAtSwap_of_steady (.inl (by simpa using handSteady))
  have jog (a : State) (i : InputName) (hi : i = .jogF ∨ i = .jogR) (ctrl : a.ctrl = s.ctrl)
      (same : a.drive = s.drive) : (a.inputAtSwap old i).ctrl = s.ctrl ∧ (a.inputAtSwap old i).drive = s.drive := by
    rw [State.inputAtSwap_jog_of_not_manual hi (by simp [ctrl, node]) (by simp [same, drive])]
    simp [ctrl, same]
  obtain ⟨ctrl, same⟩ := jog ((s.inputAtSwap old .safe).inputAtSwap old .hand) .jogF (.inl rfl)
    (by rw [hand]; simp [first]) (by rw [hand]; simp [first])
  exact jog _ .jogR (.inr rfl) ctrl same

/-- The turn of AUX leaves the node and its drive (R179). -/
theorem State.inputAtSwap_aux_ctrl (s : State) (old : Params) :
    (s.inputAtSwap old .aux).ctrl = s.ctrl ∧ (s.inputAtSwap old .aux).drive = s.drive := by
  unfold State.inputAtSwap
  simp only
  (repeat' split) <;> simp

/-- SAFE and DRDY turned inactive together in RUN with the drive RUNNING: DRDY, which acts first on the node, trips it,
and the SAFE request that waits adds to the record (R53, R130, R178, logs 10 and 11). -/
theorem State.inputsAtSwap_of_safe_and_drdy {s : State} {old : Params}
    (safe : s.Turns old .safe) (safeOff : s.inputActive .safe = false)
    (drdy : s.Turns old .drdy) (drdyOff : s.inputActive .drdy = false)
    (handSteady : PerInput.get old.inputPolarity .hand = PerInput.get s.params.inputPolarity .hand)
    (hand : s.handActive = false) (node : s.ctrl.node = .run) (drive : s.drive.st = .running) :
    (s.inputsAtSwap old).ctrl.node = .tripped
      ∧ (s.inputsAtSwap old).ctrl.trip = some { cause := .driveFault, seq := s.line.lastOut, extra := 1 }
      ∧ (s.inputsAtSwap old).drive.st = .faulted
      ∧ hasEvent (s.inputsAtSwap old).events.flags .driveFault = true := by
  obtain ⟨ctrl, same⟩ := State.turnsBeforeDrdy_of_running safe safeOff handSteady node drive
  generalize before :
    (((s.inputAtSwap old .safe).inputAtSwap old .hand).inputAtSwap old .jogF).inputAtSwap old .jogR = b at ctrl same
  have active (i : InputName) : b.inputActive i = s.inputActive i := by
    simp [← before, State.inputAtSwap_inputActive]
  have line : b.line = s.line := by simp [← before]
  have turns : b.Turns old .drdy := by
    rw [← before]
    exact (((drdy.afterInput .safe).afterInput .hand).afterInput .jogF).afterInput .jogR
  have fault : b.inputAtSwap old .drdy = (b.refiltered old .drdy).faultDrive := by
    rw [turns.drdy, active, drdyOff]
    simp [State.drdyChange, same, drive]
  have serving : NodeState.serving (b.refiltered old .drdy).ctrl.node = true := by
    simp [ctrl, node, NodeState.serving]
  have handOff : (b.refiltered old .drdy).handActive = false :=
    ((b.refiltered_inputActive old .drdy .hand).trans (active .hand)).trans hand
  obtain ⟨node', trip, faulted, event⟩ := State.faultDrive_of_serving serving handOff
  rw [State.refiltered_line, line] at trip
  have all : s.inputTurns old = (b.refiltered old .drdy).faultDrive.inputAtSwap old .aux := by
    rw [← fault, ← before]
    rfl
  obtain ⟨auxCtrl, auxDrive⟩ := (b.refiltered old .drdy).faultDrive.inputAtSwap_aux_ctrl old
  have tripped : (s.inputTurns old).ctrl.node = .tripped := by rw [all, auxCtrl, node']
  have waits : s.safeWaits old = true := by
    have off : s.safeActive = false := safeOff
    have turned : old.inputPolarity.safe ≠ s.params.inputPolarity.safe := safe.1
    have pin : s.inputs.safe.pin ≠ none := safe.2
    simp [State.safeWaits, node, NodeState.serving, turned, Option.isSome_iff_ne_none, pin, off]
  have counted : s.inputsAtSwap old
      = (s.inputTurns old).withTrip ((s.inputTurns old).ctrl.trip.map TripRecord.count) := by
    simp [State.inputsAtSwap, waits, tripped, State.tripRequestIf, State.tripRequest]
  rw [counted]
  refine ⟨tripped, ?_, ?_, ?_⟩
  · rw [all, auxCtrl, trip]
    rfl
  · rw [all, State.withTrip, State.withCtrl_drive, auxDrive, faulted]
  · rw [all]
    exact (State.inputAtSwap_aux_reacts _ old).raises.2.2 .driveFault event

/-! ## AUX turned over (R179) -/

theorem State.hasEvent_raiseIf_self (s : State) (b : Bool) (e : Event) :
    hasEvent (s.raiseIf b e).events.flags e = (hasEvent s.events.flags e || b) := by
  cases b
  · simp [State.raiseIf]
  · simpa [State.raiseIf] using s.hasEvent_raise_self e

/-- AUX raises its event at a swap exactly when the edge that both banks hold selects the turn (R179). -/
theorem State.inputsAtSwap_hasEvent_aux {s : State} {old : Params} (turns : s.Turns old .aux)
    (edge : old.auxEdge = s.params.auxEdge) : hasEvent (s.inputsAtSwap old).events.flags .aux =
      (hasEvent s.events.flags .aux || AuxEdge.selects old.auxEdge (s.inputActive .aux)) := by
  have params : (s.turnsBeforeAux old).params = s.params := by simp [State.turnsBeforeAux]
  have turns' : (s.turnsBeforeAux old).Turns old .aux :=
    ((((turns.afterInput .safe).afterInput .hand).afterInput .jogF).afterInput .jogR).afterInput .drdy
  have requested : hasEvent (s.inputsAtSwap old).events.flags .aux = hasEvent (s.inputTurns old).events.flags .aux :=
    (State.tripRequestIf_reacts _ _ _).flags .aux (by decide)
  rw [requested, State.inputTurns_eq,
    turns'.aux (by rw [params, edge]),
    State.hasEvent_raiseIf_self, State.refiltered_events, (s.turnsBeforeAux_reacts old).flags .aux (by decide),
    State.turnsBeforeAux_inputActive]

end Sys2Proof.Machine
end

section
/-! SUPPORT. The blocks of the node at a profile swap put together (R24, R155): the banks and the lookup, the Wheel
Monitor, the drive, the line, the inputs; and the obligation about them. -/

namespace Sys2Proof.Machine

/-! ## The banks, the Wheel Monitor -/

/-- The lookup is made again in the bank that becomes active (R155). -/
theorem TableBlock.swap_lookup (s : State) :
    (TableBlock.swap s.table).lookup = s.table.lastAngle.bind (lookupIn s.stagingBank.entries) := by
  unfold TableBlock.swap TableBlock.relook TableBlock.activeEntries State.stagingBank BankId.other
  cases s.table.active <;> rfl

theorem State.profileSwap_wheel (s : State) : s.profileSwap.wheel =
    if s.params.teeth ≠ s.stagingBank.params.teeth ∧ s.wheel.frozen = false then
      { s.wheel with period := 0, armed := false }
    else s.wheel := by
  have banks : s.swapBanks.wheel = s.wheel := by simp [State.swapBanks]
  simp only [State.profileSwap_eq, State.inputsAtSwap_wheel, State.lineAtSwap_wheel, State.swappedToDrive,
    State.driveAtSwap_wheel, State.wheelAtSwap, State.jointAtSwap_params, State.jointAtSwap_wheel,
    State.swapBanks_params, banks]
  split <;> simp

/-! ## The drive (R135) -/

theorem State.swappedToDrive_ctrl (s : State) : s.swappedToDrive.ctrl = s.ctrl := by
  simp [State.swappedToDrive, State.swapBanks]

/-- The stop of R132 from a state that energizes, with a STOP_TIME. -/
theorem State.driveStop_of_energized {s : State} (h : s.drive.st = .starting ∨ s.drive.st = .running)
    (stopTime : s.params.stopTime ≠ 0) : s.driveStop = s.haltMotor := by
  obtain h | h := h <;> simp [State.driveStop, h, State.enterStopping, stopTime]

theorem State.driveStop_of_resting {s : State} (h : s.drive.st = .resting) :
    s.driveStop = s.withDrive (DriveBlock.stoppedAt s.drive .off) := by
  rw [State.driveStop, h]
  rfl

theorem State.driveStop_of_still {s : State} (h : s.drive.st = .off ∨ s.drive.st = .stopping ∨ s.drive.st = .faulted) :
    s.driveStop = s := by
  obtain h | h | h := h <;> simp [State.driveStop, h]

/-- The state in which the Drive Sequencer acts at a swap (log 10). -/
def State.swappedToWheel (s : State) : State := (s.swapBanks.jointAtSwap).wheelAtSwap s.params

theorem State.swappedToWheel_params (s : State) : s.swappedToWheel.params = s.stagingBank.params := by
  simp [State.swappedToWheel, State.swapBanks_params]

@[simp] theorem State.swappedToWheel_drive (s : State) : s.swappedToWheel.drive = s.drive := by
  simp [State.swappedToWheel, State.swapBanks]

theorem State.swappedToDrive_of_same_mode {s : State} (h : s.params.driveMode = s.stagingBank.params.driveMode) :
    s.swappedToDrive.drive =
      if s.stagingBank.params.driveMode = .rate ∧ s.drive.jog = true ∧ s.drive.st = .running then
        { s.drive with rateRef := s.stagingBank.params.jogDemand }
      else s.drive := by
  have drive : s.swappedToDrive = s.swappedToWheel.driveAtSwap s.params := rfl
  rw [drive, State.driveAtSwap, State.swappedToWheel_params, if_neg (not_not.2 h), State.swappedToWheel_drive]
  split <;> simp

theorem State.swappedToDrive_of_mode_change {s : State}
    (h : s.params.driveMode ≠ s.stagingBank.params.driveMode) :
    s.swappedToDrive = s.swappedToWheel.driveStop := by
  have drive : s.swappedToDrive = s.swappedToWheel.driveAtSwap s.params := rfl
  rw [drive, State.driveAtSwap, State.swappedToWheel_params, if_pos h]

/-! ## The line (R19) -/

@[simp] theorem State.swappedToDrive_line (s : State) : s.swappedToDrive.line = s.line := by
  simp [State.swappedToDrive, State.swapBanks]

@[simp] theorem State.swappedToDrive_inputs (s : State) : s.swappedToDrive.inputs = s.inputs := by
  simp [State.swappedToDrive, State.swapBanks]

@[simp] theorem State.swappedToDrive_power (s : State) : s.swappedToDrive.power = s.power := by
  simp [State.swappedToDrive, State.swapBanks]

/-- The state that the Input Conditioner finds at a swap: all other blocks done (log 10). -/
def State.swappedToLine (s : State) : State := s.swappedToDrive.lineAtSwap

theorem State.profileSwap_eq_inputsAtSwap (s : State) : s.profileSwap = s.swappedToLine.inputsAtSwap s.params := rfl

theorem State.swappedToLine_params (s : State) : s.swappedToLine.params = s.stagingBank.params := by
  simp [State.swappedToLine, State.swappedToDrive_params]

@[simp] theorem State.swappedToLine_inputs (s : State) : s.swappedToLine.inputs = s.inputs := by
  simp [State.swappedToLine]

theorem State.swappedToLine_of_reached {s : State} (hm : s.power.role = .mid)
    (h : s.stagingBank.params.returnMissLimit ≤ s.line.missCount) : s.swappedToLine =
      (s.swappedToDrive.withLine
        { s.line with missCount := s.stagingBank.params.returnMissLimit }).loseReturns := by
  rw [State.swappedToLine, State.lineAtSwap_of_reached (by simpa using hm)
    (by simpa [State.swappedToDrive_params] using h), State.swappedToDrive_params, State.swappedToDrive_line]

theorem State.swappedToLine_of_below {s : State}
    (h : s.power.role = .endNode ∨ s.line.missCount < s.stagingBank.params.returnMissLimit) :
    s.swappedToLine = s.swappedToDrive :=
  State.lineAtSwap_of_below (by simpa [State.swappedToDrive_params] using h)

/-- A lost return takes a serving node no farther than the table does, which HAND alone makes LOCAL (R45, R48). -/
theorem State.swappedToLine_node {s : State} (h : NodeState.serving s.ctrl.node = true) :
    NodeState.serving s.swappedToLine.ctrl.node = true ∨ s.swappedToLine.ctrl.node = .manual := by
  have evaluated (a : State) (ha : NodeState.serving a.ctrl.node = true) :
      NodeState.serving a.evaluate.ctrl.node = true ∨ a.evaluate.ctrl.node = .manual := by
    rw [State.evaluate_of_serving ha, State.moveTo_ctrl]
    cases hand : a.handActive
    · exact .inl (State.tableState_serving hand)
    · simp [State.tableState, hand]
  have start : NodeState.serving s.swappedToDrive.ctrl.node = true := by rwa [s.swappedToDrive_ctrl]
  unfold State.swappedToLine State.lineAtSwap
  split
  · unfold State.loseReturns State.setHolds
    split
    · exact .inl start
    · exact evaluated _ start
  · exact .inl start

/-! ## The inputs (R178) -/

/-- The Input Conditioner finds an input turned when the two banks read it by other polarities. -/
theorem State.swappedToLine_turns {s : State} {i : InputName}
    (turned : PerInput.get s.params.inputPolarity i ≠ PerInput.get s.stagingBank.params.inputPolarity i)
    (pin : (PerInput.get s.inputs i).pin ≠ none) : s.swappedToLine.Turns s.params i :=
  ⟨by rwa [s.swappedToLine_params], by rwa [s.swappedToLine_inputs]⟩

theorem State.Turns.inputActive {s : State} {i : InputName} (h : s.swappedToLine.Turns s.params i) :
    s.swappedToLine.inputActive i = !s.inputActive i := by
  obtain ⟨turned, pin⟩ := h
  obtain ⟨level, established⟩ := Option.ne_none_iff_exists'.1 pin
  have before : (PerInput.get s.inputs i).pin = some level := by rwa [s.swappedToLine_inputs] at established
  rw [State.inputActive, State.inputActive, established, before, pinActive_of_ne turned]

theorem State.swappedToLine_inputActive_of_steady {s : State} {i : InputName}
    (h : PerInput.get s.params.inputPolarity i = PerInput.get s.stagingBank.params.inputPolarity i) :
    s.swappedToLine.inputActive i = s.inputActive i :=
  State.inputActive_of_pin (by rw [s.swappedToLine_params, h]) (by rw [s.swappedToLine_inputs])

/-! ## The whole swap -/

theorem State.profileSwap_raises (s : State) : hasEvent s.profileSwap.events.flags .profile = true := by
  have banks : hasEvent s.swapBanks.events.flags .profile = true := State.hasEvent_raise_self _ _
  have wheel : hasEvent s.swappedToWheel.events.flags .profile = true := by
    simpa [State.swappedToWheel] using banks
  have drive := (s.swappedToWheel.driveAtSwap_reacts s.params).raises
  have line := s.swappedToDrive.lineAtSwap_follows.raises
  have inputs := (s.swappedToLine.inputsAtSwap_reacts s.params).raises
  exact ((drive.trans line).trans inputs).2.2 .profile wheel

theorem State.profileSwap_of_reached {s : State} (hm : s.power.role = .mid)
    (h : s.stagingBank.params.returnMissLimit ≤ s.line.missCount) :
    s.profileSwap.line = { s.line with missCount := s.stagingBank.params.returnMissLimit }
      ∧ s.profileSwap.ctrl.holds = { s.ctrl.holds with returnLost := true }
      ∧ hasEvent s.profileSwap.events.flags .returnLost = true := by
  have inputs := s.swappedToLine.inputsAtSwap_reacts s.params
  have line := State.swappedToLine_of_reached hm h
  rw [State.profileSwap_eq_inputsAtSwap]
  refine ⟨?_, ?_, inputs.raises.2.2 .returnLost ?_⟩
  · simp [line]
  · rw [inputs.holds, line, State.loseReturns_holds, State.withLine_ctrl, s.swappedToDrive_ctrl]
  · rw [line]
    exact State.loseReturns_hasEvent _

theorem State.profileSwap_of_below {s : State}
    (h : s.power.role = .endNode ∨ s.line.missCount < s.stagingBank.params.returnMissLimit) :
    s.profileSwap.line = s.line ∧ s.profileSwap.ctrl.holds = s.ctrl.holds := by
  rw [State.profileSwap_eq_inputsAtSwap, (s.swappedToLine.inputsAtSwap_reacts s.params).holds,
    State.swappedToLine_of_below h, s.swappedToDrive_ctrl]
  simp

theorem State.profileSwap_raises_safety {s : State}
    (turned : s.params.inputPolarity.safe ≠ s.stagingBank.params.inputPolarity.safe) (safe : s.safeActive = true)
    (node : NodeState.serving s.ctrl.node = true) : hasEvent s.profileSwap.events.flags .safety = true := by
  have turns : s.swappedToLine.Turns s.params .safe :=
    State.swappedToLine_turns turned (State.pin_ne_none_of_active safe)
  have off : s.swappedToLine.inputActive .safe = false := by
    rw [turns.inputActive, show s.inputActive .safe = true from safe, Bool.not_true]
  exact State.inputsAtSwap_raises_safety (State.swappedToLine_node node) turns off

theorem State.profileSwap_of_safe_and_drdy {s : State}
    (safeTurned : s.params.inputPolarity.safe ≠ s.stagingBank.params.inputPolarity.safe) (safe : s.safeActive = true)
    (drdyTurned : s.params.inputPolarity.drdy ≠ s.stagingBank.params.inputPolarity.drdy) (drdy : s.drdyActive = true)
    (handSteady : s.params.inputPolarity.hand = s.stagingBank.params.inputPolarity.hand)
    (hand : s.handActive = false) (node : s.ctrl.node = .run) (drive : s.drive.st = .running)
    (mode : s.params.driveMode = s.stagingBank.params.driveMode)
    (below : s.power.role = .endNode ∨ s.line.missCount < s.stagingBank.params.returnMissLimit) :
    s.profileSwap.ctrl.node = .tripped
      ∧ s.profileSwap.ctrl.trip = some { cause := .driveFault, seq := s.line.lastOut, extra := 1 }
      ∧ s.profileSwap.drive.st = .faulted ∧ hasEvent s.profileSwap.events.flags .driveFault = true := by
  have safeTurns : s.swappedToLine.Turns s.params .safe :=
    State.swappedToLine_turns safeTurned (State.pin_ne_none_of_active safe)
  have drdyTurns : s.swappedToLine.Turns s.params .drdy :=
    State.swappedToLine_turns drdyTurned (State.pin_ne_none_of_active drdy)
  have safeOff : s.swappedToLine.inputActive .safe = false := by
    rw [safeTurns.inputActive, show s.inputActive .safe = true from safe, Bool.not_true]
  have drdyOff : s.swappedToLine.inputActive .drdy = false := by
    rw [drdyTurns.inputActive, show s.inputActive .drdy = true from drdy, Bool.not_true]
  have line : s.swappedToLine = s.swappedToDrive := State.swappedToLine_of_below below
  have running : s.swappedToLine.drive.st = .running := by
    rw [line, State.swappedToDrive_of_same_mode mode]
    split <;> exact drive
  have fault := State.inputsAtSwap_of_safe_and_drdy safeTurns safeOff drdyTurns drdyOff
    (by rw [s.swappedToLine_params]; exact handSteady)
    ((State.swappedToLine_inputActive_of_steady (i := .hand) handSteady).trans hand)
    (by rw [line, s.swappedToDrive_ctrl, node]) running
  rwa [line, State.swappedToDrive_line, ← line] at fault

/-- AUX_EDGE selects the turn of a reading that stood at `active` (R179). -/
theorem AuxEdge.selects_turn (x : AuxEdge) (active : Bool) : AuxEdge.selects x (!active) =
    decide (x = .both ∨ (x = .rising ∧ active = false) ∨ (x = .falling ∧ active = true)) := by
  cases x <;> cases active <;> rfl

theorem State.profileSwap_hasEvent_aux {s : State} {level : Level}
    (turned : s.params.inputPolarity.aux ≠ s.stagingBank.params.inputPolarity.aux)
    (pin : s.inputs.aux.pin = some level) (edge : s.params.auxEdge = s.stagingBank.params.auxEdge) :
    hasEvent s.profileSwap.events.flags .aux = (hasEvent s.events.flags .aux
      || decide (s.stagingBank.params.auxEdge = .both
          ∨ (s.stagingBank.params.auxEdge = .rising ∧ s.inputActive .aux = false)
          ∨ (s.stagingBank.params.auxEdge = .falling ∧ s.inputActive .aux = true))) := by
  have established : (PerInput.get s.inputs .aux).pin ≠ none := fun h => Option.some_ne_none level (pin.symm.trans h)
  have turns : s.swappedToLine.Turns s.params .aux := State.swappedToLine_turns turned established
  have before : hasEvent s.swappedToLine.events.flags .aux = hasEvent s.events.flags .aux :=
    (s.swappedToDrive.lineAtSwap_follows.flags .aux (by decide)).trans
      (s.swappedToDrive_reacts.flags .aux (by decide))
  rw [State.profileSwap_eq_inputsAtSwap,
    State.inputsAtSwap_hasEvent_aux turns (by rw [s.swappedToLine_params, edge]), before, turns.inputActive,
    AuxEdge.selects_turn, edge]

/-- With the polarities kept and the miss count below its limit, a swap acts on the drive alone of the two (R135). -/
theorem State.profileSwap_of_steady {s : State} (polarity : s.params.inputPolarity = s.stagingBank.params.inputPolarity)
    (below : s.power.role = .endNode ∨ s.line.missCount < s.stagingBank.params.returnMissLimit) :
    s.profileSwap.ctrl = s.ctrl ∧ s.profileSwap.drive = s.swappedToDrive.drive := by
  obtain ⟨ctrl, drive⟩ := State.inputsAtSwap_of_steady (s := s.swappedToLine) (old := s.params)
    (by rw [s.swappedToLine_params, polarity])
  rw [State.profileSwap_eq_inputsAtSwap, ctrl, drive, State.swappedToLine_of_below below, s.swappedToDrive_ctrl]
  exact ⟨rfl, rfl⟩

/-- What a swap leaves of the drive by its state, when DRIVE_MODE changes (R132, R135). -/
theorem State.swappedToDrive_drive_of_mode_change {s : State}
    (mode : s.params.driveMode ≠ s.stagingBank.params.driveMode) :
    ((s.drive.st = .starting ∨ s.drive.st = .running) → s.stagingBank.params.stopTime ≠ 0 →
        s.swappedToDrive.drive = { s.drive with
          st := .stopping
          rateRef := 0
          period := none
          phase := some { length := 100 * s.stagingBank.params.stopTime
                          left := 100 * s.stagingBank.params.stopTime } })
      ∧ (s.drive.st = .resting → s.swappedToDrive.drive = DriveBlock.stoppedAt s.drive .off)
      ∧ ((s.drive.st = .off ∨ s.drive.st = .stopping ∨ s.drive.st = .faulted) →
        s.swappedToDrive.drive = s.drive) := by
  rw [State.swappedToDrive_of_mode_change mode]
  refine ⟨fun energized stopTime => ?_, fun resting => ?_, fun still => ?_⟩
  · rw [State.driveStop_of_energized (by simpa using energized) (by rwa [s.swappedToWheel_params]), State.haltMotor,
      s.swappedToWheel_params]
    simp [Timer.tenths, Timer.start]
  · rw [State.driveStop_of_resting (by simpa using resting)]
    simp
  · rw [State.driveStop_of_still (by simpa using still), State.swappedToWheel_drive]

theorem State.profileSwap_banks (s : State) :
    s.profileSwap.activeBank = s.stagingBank ∧ s.profileSwap.stagingBank = s.activeBank := by
  rw [State.activeBank_congr s.profileSwap_table, State.stagingBank_congr s.profileSwap_table]
  exact ⟨s.swapBanks_activeBank, s.swapBanks_stagingBank⟩

theorem State.stageSwap_of_pending {s : State} (f : Frame) (h : s.slot.pendingCommit = true) :
    s.stageSwap f = s.profileSwap.lampAtFrame (frameSeq f) := by
  simp [State.stageSwap, h]

/-- With no commit pending stage 1 writes the swap note and the lamp (R171, R187). -/
theorem State.stageSwap_of_not_pending {s : State} (f : Frame) (h : s.slot.pendingCommit = false) :
    State.SameOutside [.slot, .lamp] s (s.stageSwap f)
      ∧ (s.stageSwap f).slot = { s.slot with swapMade := false } := by
  have stage : s.stageSwap f = (s.withSlot { s.slot with swapMade := false }).lampAtFrame (frameSeq f) := by
    simp [State.stageSwap, h]
  rw [stage]
  refine ⟨fun b hb => ?_, by simp⟩
  cases b <;> simp [State.sameBlock] at hb ⊢

theorem State.profileSwap_get (s : State) (i : InputName) : PerInput.get s.profileSwap.inputs i =
    { PerInput.get s.inputs i with
      samples := if PerInput.get s.params.inputFilter i = PerInput.get s.stagingBank.params.inputFilter i then
        (PerInput.get s.inputs i).samples else none } := by
  rw [State.profileSwap_eq_inputsAtSwap, State.inputsAtSwap_get, s.swappedToLine_inputs, s.swappedToLine_params]
  simp [InputState.afterSwap]

/-- Settles O19: each block's part of the swap by its own lemma, in the order in which the blocks act. -/
theorem pendingCommitSwapsBanks : Obligations.PendingCommitSwapsBanks := by
  refine fun f s => ⟨fun pending => ?_, fun idle => State.stageSwap_of_not_pending f idle⟩
  obtain ⟨active, staging⟩ := s.profileSwap_banks
  have table : s.profileSwap.table = TableBlock.swap s.table := s.profileSwap_table
  have generation : (s.table.generation + 1).toNat = (s.table.generation.toNat + 1) % 256 := by
    rw [BitVec.toNat_add]
    rfl
  rw [State.stageSwap_of_pending f pending]
  simp only [State.lampAtFrame_table, State.lampAtFrame_slot, State.lampAtFrame_events, State.lampAtFrame_joint,
    State.lampAtFrame_wheel, State.lampAtFrame_line, State.lampAtFrame_ctrl, State.lampAtFrame_inputs,
    State.lampAtFrame_drive, table]
  refine ⟨active, staging, generation, rfl, rfl, s.profileSwap_slot, s.profileSwap_raises, rfl,
    TableBlock.swap_lookup s, State.profileSwap_joint_of_not_fresh, fun _ => State.profileSwap_joint_of_fresh,
    s.profileSwap_wheel, State.profileSwap_of_reached, State.profileSwap_of_below, s.profileSwap_get,
    fun turned safe node => State.profileSwap_raises_safety turned safe ((NodeState.serving_iff _).2 node),
    State.profileSwap_of_safe_and_drdy, fun _ => State.profileSwap_hasEvent_aux, fun polarity below => ?_⟩
  obtain ⟨ctrl, drive⟩ := State.profileSwap_of_steady polarity below
  rw [ctrl, drive]
  exact ⟨rfl, State.swappedToDrive_of_same_mode, fun mode => (State.swappedToDrive_drive_of_mode_change mode).1,
    fun mode => (State.swappedToDrive_drive_of_mode_change mode).2.1,
    fun mode => (State.swappedToDrive_drive_of_mode_change mode).2.2⟩

end Sys2Proof.Machine
end

section
/-! SUPPORT. The law of the trip record (R56) at every operation that moves the node or writes the record, at every
command and every step, and the obligation about it. A lemma `State.TripLaw.f` says that `f` keeps the law. -/

namespace Sys2Proof.Machine

/-! ## The law and a move of the node -/

/-- The law reads the State Controller alone. -/
theorem State.TripLaw.of_ctrl {s t : State} (law : s.TripLaw) (ctrl : t.ctrl = s.ctrl) : t.TripLaw := by
  rwa [State.TripLaw, ctrl]

theorem State.TripLaw.withLine {s : State} (law : s.TripLaw) (x : LineBlock) : (s.withLine x).TripLaw := law

theorem State.TripLaw.withSlot {s : State} (law : s.TripLaw) (x : SlotBlock) : (s.withSlot x).TripLaw := law

theorem State.TripLaw.raise {s : State} (law : s.TripLaw) (e : Event) : (s.raise e).TripLaw := law.of_ctrl (by simp)

/-- Of the State Controller the law reads the node state and the trip record. -/
theorem State.TripLaw.of_node {s t : State} (law : s.TripLaw) (node : t.ctrl.node = s.ctrl.node)
    (trip : t.ctrl.trip = s.ctrl.trip) : t.TripLaw := by
  rwa [State.TripLaw, node, trip]

theorem State.TripLaw.of_tripped {s : State} (node : s.ctrl.node = .tripped) (trip : s.ctrl.trip.isSome = true) :
    s.TripLaw := ⟨fun _ => trip, fun _ => .inl node⟩

theorem State.TripLaw.of_manual {s : State} (node : s.ctrl.node = .manual) : s.TripLaw :=
  ⟨fun tripped => by simp [node] at tripped, fun _ => .inr node⟩

theorem State.TripLaw.of_no_trip {s : State} (node : s.ctrl.node ≠ .tripped) (trip : s.ctrl.trip = none) : s.TripLaw :=
  ⟨fun tripped => absurd tripped node, fun some => by simp [trip] at some⟩

/-- Outside TRIPPED and LOCAL no record stands. -/
theorem State.TripLaw.trip_eq_none {s : State} (law : s.TripLaw) (tripped : s.ctrl.node ≠ .tripped)
    (manual : s.ctrl.node ≠ .manual) : s.ctrl.trip = none := by
  rw [← Option.not_isSome_iff_eq_none]
  exact fun some => (law.2 some).elim tripped manual

/-- An operation that acts on a condition keeps the law when its act does. -/
theorem State.TripLaw.ite {s t : State} {p : Prop} [Decidable p] (law : s.TripLaw) (act : p → t.TripLaw) :
    (if p then t else s).TripLaw := by
  split
  · next h => exact act h
  · exact law

theorem State.servingState_ne_tripped (s : State) : s.servingState ≠ .tripped := by
  unfold State.servingState
  (repeat' split) <;> simp

/-- The state an evaluation gives suits the record that stands: only a node with a record goes to TRIPPED, and one with
a record goes nowhere but to TRIPPED or LOCAL (R44, R45). -/
theorem State.TripLaw.moveTo_evaluated {s : State} (law : s.TripLaw) : (s.moveTo s.evaluated).TripLaw := by
  have resting (tripped : s.ctrl.node ≠ .tripped) (manual : s.ctrl.node ≠ .manual) (n : NodeState)
      (hn : n ≠ .tripped) : (s.moveTo n).TripLaw :=
    .of_no_trip (by simpa using hn) (by simpa using law.trip_eq_none tripped manual)
  cases node : s.ctrl.node <;> simp only [State.evaluated, node]
  case standby b => exact resting (by simp [node]) (by simp [node]) _ (by simp)
  case idle | run | hold =>
    exact resting (by simp [node]) (by simp [node]) _ s.servingState_ne_tripped
  case tripped =>
    split
    · exact .of_manual (by simp)
    · exact .of_tripped (by simp) (by simpa using law.1 node)
  case manual =>
    (repeat' split)
    · exact .of_manual (by simp)
    · next trip => exact .of_tripped (by simp) (by simpa using trip)
    · next trip =>
      exact .of_no_trip (by simpa using s.servingState_ne_tripped) (by simpa using trip)

/-! ## Trips and evaluations (R44, R45, R51 to R55) -/

theorem State.TripLaw.tripRequest {s : State} (law : s.TripLaw) (cause : TripCause) :
    (s.tripRequest cause).TripLaw := by
  have trips : (((s.withTrip (some (s.newTrip cause))).moveTo .tripped).moveTo
      ((s.withTrip (some (s.newTrip cause))).moveTo .tripped).evaluated).TripLaw :=
    State.TripLaw.moveTo_evaluated (.of_tripped (by simp) (by simp [State.withTrip]))
  cases node : s.ctrl.node <;> simp only [State.tripRequest, node]
  case standby => exact law
  case idle | run | hold => exact trips
  case tripped => exact .of_tripped node (by simpa [State.withTrip] using law.1 node)
  case manual =>
    (repeat' split)
    · exact .of_manual node
    · exact .of_manual node
    · exact law

theorem State.TripLaw.tripRequestIf {s : State} (law : s.TripLaw) (b : Bool) (cause : TripCause) :
    (s.tripRequestIf b cause).TripLaw := law.ite fun _ => law.tripRequest cause

theorem State.TripLaw.safeRequest {s : State} (law : s.TripLaw) : s.safeRequest.TripLaw :=
  (law.raise .safety).tripRequest .safe

theorem State.TripLaw.evaluate {s : State} (law : s.TripLaw) : s.evaluate.TripLaw :=
  law.moveTo_evaluated.ite fun _ => law.moveTo_evaluated.safeRequest

/-- A node in plain STANDBY has no record to take into IDLE (R46). -/
theorem State.TripLaw.woken {s : State} (law : s.TripLaw) : s.woken.TripLaw := by
  unfold State.woken
  split
  · next plain =>
    exact .of_no_trip (by simp [State.withNode])
      (law.trip_eq_none (by simp [plain]) (by simp [plain]))
  · exact law

theorem State.TripLaw.firstEvaluate {s : State} (law : s.TripLaw) : s.firstEvaluate.TripLaw :=
  law.woken.moveTo_evaluated.ite fun _ => law.woken.moveTo_evaluated.safeRequest

theorem State.TripLaw.setHolds {s : State} (law : s.TripLaw) (h : HoldCauses) : (s.setHolds h).TripLaw := by
  unfold State.setHolds
  split
  · exact law
  · exact State.TripLaw.evaluate (s := s.withHolds h) (law.of_node rfl rfl)

theorem State.TripLaw.enterChain {s : State} (law : s.TripLaw) (opener : Bool) : (s.enterChain opener).TripLaw := by
  unfold State.enterChain
  split
  · exact law
  · exact State.TripLaw.setHolds (law.of_ctrl (by simp)) _

/-- Strap fault discards the record (R26, R47). -/
theorem State.enterStrapFault_tripLaw (s : State) : s.enterStrapFault.TripLaw := by
  have moved : ((s.withTrip none).moveTo (.standby true)).TripLaw := .of_no_trip (by simp) (by simp [State.withTrip])
  exact moved.ite fun _ => moved.of_ctrl (by simp)

theorem State.TripLaw.faultDrive {s : State} (law : s.TripLaw) : s.faultDrive.TripLaw :=
  State.TripLaw.tripRequest (law.of_ctrl (by simp)) .driveFault

theorem State.TripLaw.stallTest {s : State} (law : s.TripLaw) : s.stallTest.TripLaw := by
  have stalled : s.stalled.TripLaw := law.of_ctrl (by simp [State.stalled])
  have trip := stalled.tripRequestIf s.params.tripEnables.stall .stall
  refine law.ite fun _ => ?_
  obtain e | ⟨-, e⟩ := s.raiseStall_cases <;> rw [e]
  · exact trip
  · exact trip.of_ctrl (by simp)

/-- An accepted drive reset removes the record as the node leaves TRIPPED (R59). -/
theorem State.TripLaw.applyDriveReset {s : State} (law : s.TripLaw) : s.applyDriveReset.TripLaw := by
  unfold State.applyDriveReset
  (repeat' split)
  · exact State.TripLaw.evaluate (.of_no_trip (by simp) (by simp))
  · exact law.of_node rfl rfl
  · exact law

/-! ## Inputs (R55, R178, R179) -/

theorem State.TripLaw.safeChange {s : State} (law : s.TripLaw) (nowActive : Bool) :
    (s.safeChange nowActive).TripLaw := by
  unfold State.safeChange
  (repeat' split)
  case isTrue => exact law.evaluate
  case h_1 => exact law
  case h_2 => exact law.of_ctrl (by simp)
  all_goals exact law.safeRequest

theorem State.TripLaw.drdyChange {s : State} (law : s.TripLaw) (nowActive : Bool) :
    (s.drdyChange nowActive).TripLaw := by
  unfold State.drdyChange
  (repeat' split)
  · exact law.of_ctrl (by simp)
  · exact law.faultDrive
  · exact law

theorem State.TripLaw.handOver {s : State} (law : s.TripLaw) (i : InputName) (nowActive : Bool) :
    (s.handOver i nowActive).TripLaw := by
  cases i
  case safe => exact law.safeChange nowActive
  case hand => exact law.evaluate
  case drdy => exact law.drdyChange nowActive
  all_goals exact law.of_ctrl (by simp [State.handOver])

theorem State.TripLaw.setPin {s : State} (law : s.TripLaw) (i : InputName) (level : Level) :
    (s.setPin i level).TripLaw := by
  unfold State.setPin
  simp only
  (repeat' split)
  · exact law
  · exact law.of_ctrl (by simp)
  · exact law.of_ctrl (by simp)
  · exact State.TripLaw.handOver (law.of_ctrl (by simp)) _ _

theorem State.TripLaw.safeTurn {s : State} (law : s.TripLaw) (nowActive : Bool) : (s.safeTurn nowActive).TripLaw := by
  unfold State.safeTurn
  split
  · exact law.raise .safety
  · exact law.safeChange nowActive

theorem State.TripLaw.inputAtSwap {s : State} (law : s.TripLaw) (old : Params) (i : InputName) :
    (s.inputAtSwap old i).TripLaw := by
  have run : (s.refiltered old i).TripLaw := law.of_ctrl (by simp)
  by_cases steady : PerInput.get old.inputPolarity i = PerInput.get s.params.inputPolarity i
      ∨ (PerInput.get s.inputs i).pin = none
  · rw [State.inputAtSwap_of_steady steady]
    exact run
  · cases i
    case safe =>
      rw [State.Turns.safe (not_or.1 steady)]
      exact run.safeTurn _
    case aux => exact law.of_ctrl (s.inputAtSwap_aux_ctrl old).1
    all_goals
      unfold State.inputAtSwap
      simp only [if_neg steady]
      exact run.handOver _ _

theorem State.TripLaw.inputsAtSwap {s : State} (law : s.TripLaw) (old : Params) : (s.inputsAtSwap old).TripLaw :=
  State.TripLaw.tripRequestIf ((((((law.inputAtSwap old .safe).inputAtSwap old .hand).inputAtSwap old .jogF).inputAtSwap
    old .jogR).inputAtSwap old .drdy).inputAtSwap old .aux) _ _

/-! ## The span line (R18 to R20, R38) -/

theorem State.TripLaw.loseReturns {s : State} (law : s.TripLaw) : s.loseReturns.TripLaw :=
  (law.raise .returnLost).setHolds _

theorem State.TripLaw.takeOutbound {s : State} (law : s.TripLaw) (f : Frame) : (s.takeOutbound f).TripLaw := by
  have checked : (s.checked f).TripLaw := by
    obtain ⟨x, e⟩ | ⟨x, y, e⟩ :=
        (s.withLine { s.line with lastOut := frameSeq f }).returnCheck_cases (frameSeq f) <;> rw [State.checked, e]
    · exact (law.withLine _).withLine x
    · exact ((law.withLine _).withLine x).loseReturns.withLine y
  rw [State.takeOutbound_eq]
  exact checked.ite fun _ => checked.enterChain false

theorem State.TripLaw.arriveFrame {s : State} (law : s.TripLaw) (link : Link) (burst : List RxByte) :
    (s.arriveFrame link burst).TripLaw := by
  have arrived : s.outboundArrival.TripLaw :=
    (law.setHolds { s.ctrl.holds with linkLost := false }).withLine _
  unfold State.arriveFrame
  (repeat' split)
  · exact law.of_ctrl (by simp)
  · exact arrived.of_ctrl (by simp)
  · exact law.of_ctrl (by simp)

theorem State.TripLaw.takeInbound {s : State} (law : s.TripLaw) (f : Frame) : (s.takeInbound f).TripLaw := by
  have latch (a : State) (ha : a.TripLaw) : (a.latchInbound f).TripLaw := by
    have latched : (a.latched f).TripLaw := ha.of_ctrl rfl
    obtain ⟨-, e⟩ | ⟨-, -, e⟩ | ⟨-, -, e⟩ := a.latchInbound_cases f <;> rw [e]
    · exact latched.enterChain _
    · exact latched.setHolds _
    · exact latched
  have accepted : (s.acceptReturn f).TripLaw := latch _ ((law.withLine _).setHolds _)
  exact (law.ite fun _ => accepted).withLine _

theorem State.TripLaw.expireFrameTimer {s : State} (law : s.TripLaw) : s.expireFrameTimer.TripLaw :=
  ((law.raise .linkLost).setHolds _).withLine _

/-! ## Outbound processing (R23) -/

theorem State.TripLaw.stageSwap {s : State} (law : s.TripLaw) (f : Frame) : (s.stageSwap f).TripLaw := by
  have drive : s.swappedToDrive.TripLaw := law.of_ctrl s.swappedToDrive_ctrl
  have line : s.swappedToLine.TripLaw := drive.ite fun _ => (drive.withLine _).loseReturns
  have swapped : s.profileSwap.TripLaw := line.inputsAtSwap s.params
  unfold State.stageSwap
  simp only
  split
  · exact swapped.of_ctrl (by simp)
  · exact law.of_ctrl rfl

theorem State.TripLaw.stageLocate {s : State} (law : s.TripLaw) (f : Frame) : (s.stageLocate f).TripLaw := by
  unfold State.stageLocate
  (repeat' split)
  · exact State.enterStrapFault_tripLaw _
  · exact law.setHolds _
  · exact law.setHolds _
  · exact law.of_ctrl (by simp)

theorem State.TripLaw.stageCommand {s : State} (law : s.TripLaw) (f : Frame) (owned : Bool) :
    (s.stageCommand f owned).TripLaw := by
  have commanded : (s.commanded f).TripLaw := law.of_ctrl (by simp [State.commanded])
  cases owned
  · exact law.of_ctrl rfl
  · rw [State.stageCommand_of_owned]
    exact commanded.ite fun _ => commanded.applyDriveReset

theorem State.TripLaw.takeRequests {s : State} (law : s.TripLaw) (r : TripRequests) : (s.takeRequests r).TripLaw := by
  have rest (a : State) (ha : a.TripLaw) : ((((a.tripRequestIf r.joint .joint).tripRequestIf r.overSpeed
      .overSpeed).tripRequestIf r.underSpeed .underSpeed).tripRequestIf r.field .field).TripLaw :=
    (((ha.tripRequestIf _ _).tripRequestIf _ _).tripRequestIf _ _).tripRequestIf _ _
  unfold State.takeRequests
  split
  · exact rest _ law
  · exact rest _ (law.tripRequest _)

theorem State.TripLaw.stageMotion {s : State} (law : s.TripLaw) (f : Frame) : (s.stageMotion f).TripLaw := by
  have begun : (s.beginMotion f).TripLaw :=
    State.TripLaw.firstEvaluate (s := s.withCtrl { s.ctrl with machineRun := frameMachineRun f }) (law.of_node rfl rfl)
  have requested : (s.requested f).TripLaw :=
    State.TripLaw.takeRequests (begun.of_ctrl (by simp [State.computing])) _
  rw [State.stageMotion_eq]
  exact requested.evaluate.of_ctrl (by simp)

theorem State.TripLaw.endStages {s : State} (law : s.TripLaw) (ceiling : Nat) (chainOpen : Bool) :
    (s.endStages ceiling chainOpen).TripLaw := by
  have turned : (s.stallTest.turnAround ceiling chainOpen).TripLaw := by
    unfold State.turnAround
    split
    · exact (law.stallTest.withSlot _).enterChain _
    · exact (law.stallTest.withSlot _).setHolds _
  unfold State.endStages
  split
  · exact turned.of_ctrl (by simp)
  · exact law.stallTest.of_ctrl (by simp)

theorem State.TripLaw.processFrame {s : State} (law : s.TripLaw) (f : Frame) : (s.processFrame f).1.TripLaw := by
  have motion : (s.throughMotion f).TripLaw :=
    ((((law.takeOutbound f).stageSwap f).stageLocate f).stageCommand f _).stageMotion f
  have chain : (s.throughChain f).TripLaw := by
    unfold State.throughChain State.stageChain
    split
    · exact (motion.withSlot _).enterChain true
    · exact motion.withSlot _
  rw [State.processFrame_fst]
  exact State.TripLaw.endStages (chain.of_ctrl (s.afterService_ctrl f)) _ _

theorem State.TripLaw.processed {s : State} (law : s.TripLaw) (f : Frame) : (s.processed f).TripLaw := by
  refine (law.processFrame f).of_ctrl ?_
  unfold State.processed State.withOutboundTx
  split <;> rfl

/-! ## Every command, every step -/

/-- A reset leaves STANDBY and no record (R43). -/
theorem State.resetBlocks_tripLaw (s : State) (keepTable : Bool) : (s.resetBlocks keepTable).TripLaw := by
  obtain ⟨-, -, ctrl, -⟩ := s.resetBlocks_blocksAtReset keepTable
  obtain ⟨node, -, trip, -⟩ := ctrl
  exact .of_no_trip (by simp [node]) trip

theorem execInboundTake_tripLaw {s t : State} (law : s.TripLaw) (h : execInboundTake s = .next t) : t.TripLaw := by
  obtain rfl := Host.Outcome.next.inj h
  refine law.ite fun _ => ?_
  split
  · exact law.takeInbound _
  · exact law
  · exact law

theorem execOutboundProcessing_tripLaw {s t : State} (law : s.TripLaw) (h : execOutboundProcessing s = .next t) :
    t.TripLaw := by
  obtain rfl := Host.Outcome.next.inj h
  refine law.ite fun _ => ?_
  split
  · exact law.processed _
  · exact law
  · exact law

theorem execLineResetEffect_tripLaw {s t : State} (law : s.TripLaw) (h : execLineResetEffect s = .next t) :
    t.TripLaw := by
  obtain rfl := Host.Outcome.next.inj h
  refine law.ite fun _ => ?_
  split
  · exact law
  · exact s.resetBlocks_tripLaw _

theorem State.serveCommand_ctrl (s : State) (op : Byte) (q : Request) : (s.serveCommand op q).ctrl = s.ctrl := by
  unfold State.serveCommand
  split
  · exact s.serve_frame (recordOf op q) .ctrl (by decide)
  · rfl

/-- Every command keeps the law: a reset empties the record, the commands of the node's acts keep it act by act, and no
other command reaches the State Controller. -/
theorem exec_tripLaw {c : Instr} {s t : State} (law : s.TripLaw) (h : exec c s = .next t) : t.TripLaw := by
  cases c
  case inboundTake => exact execInboundTake_tripLaw law h
  case outboundProcessing => exact execOutboundProcessing_tripLaw law h
  case lineResetEffect => exact execLineResetEffect_tripLaw law h
  all_goals obtain rfl := Host.Outcome.next.inj h
  case powerOnReset =>
    split
    · exact law
    · exact (s.resetBlocks_tripLaw false).of_ctrl rfl
  case supplyLoss => exact law.ite fun _ => (s.resetBlocks_tripLaw false).of_ctrl rfl
  case initialisationEnd => exact law.ite fun _ => State.resetBlocks_tripLaw _ false
  case pinReset => exact (s.resetBlocks_tripLaw false).of_ctrl rfl
  case frameArrival => exact law.ite fun _ => law.arriveFrame _ _
  case driveReset => exact law.ite fun _ => law.applyDriveReset
  case frameTimeout => exact law.ite fun _ => law.expireFrameTimer
  case stall => exact law.ite fun _ => law.stallTest
  case startTimeout => exact law.ite fun _ => law.faultDrive
  case inputChange => exact law.ite fun _ => State.TripLaw.setPin (law.of_ctrl (by simp)) _ _
  case inputSample i level =>
    refine law.ite fun _ => ?_
    unfold State.sampleInput
    simp only
    split
    · exact State.TripLaw.setPin (law.of_ctrl (by simp)) _ _
    · exact law.of_ctrl (by simp)
  case wheelTick =>
    refine law.ite fun _ => State.TripLaw.stallTest ?_
    split <;> exact law.of_ctrl (by simp)
  case readParam | writeParam | readEntry | writeEntry | trimEntries | stageFromActive | commit | setEvents | readLive
      | lineReset =>
    exact law.of_ctrl (s.serveCommand_ctrl _ _)
  case unknownOp =>
    split
    · exact law
    · exact law.of_ctrl (s.serveCommand_ctrl _ _)
  all_goals exact law.ite fun _ => law.of_ctrl (by simp)

/-- Settles O55: every command keeps the law, and a step is a command or idles. -/
theorem tripRecordLawIsKept : Obligations.TripRecordLawIsKept := by
  intro s t law h
  cases pending : s.pending with
  | nil =>
    rw [step, pending] at h
    obtain rfl := Host.Outcome.next.inj h
    exact law
  | cons c rest =>
    rw [step_cons s c rest pending] at h
    exact exec_tripLaw (s := s.withPending rest) (law.of_ctrl rfl) h

end Sys2Proof.Machine
end

section
/-! SUPPORT. How a trip is taken and undone (R45, R48, R51 to R53, R57 to R60, R132): the stop of a drive with no start
waiting, the trip request by the node state, the fault of a drive, the drive reset, and the obligations about them. -/

namespace Sys2Proof.Machine

/-! ## The stop of a drive with no start waiting (R132, R133) -/

/-- With no start due and no jog to begin, the arrival at OFF is OFF (R133). -/
theorem State.arriveOff_of_no_start {s : State} (start : ¬(s.ctrl.node = .run ∧ 0 < s.demand.d))
    (jog : s.ctrl.node ≠ .manual ∨ s.jogSelection = none) : s.arriveOff = s.driveOff := by
  have noJog : s.driveOff.startJogIfDue = s.driveOff := by
    obtain node | unselected := jog
    · exact s.driveOff.startJogIfDue_of_not_manual (by simpa using node)
    · have unselected' : s.driveOff.jogSelection = none := unselected
      simp [State.startJogIfDue, unselected']
  rw [State.arriveOff, State.startIfDue_of_not_due _ (by simpa using start), State.takeReady_of_not_starting _ (by simp),
    noJog]

/-- The stop of R132 and R133, where no start waits at OFF. -/
theorem State.driveStop_stoppedTo_of_no_start {s : State}
    (start : s.params.stopTime = 0 → ¬(s.ctrl.node = .run ∧ 0 < s.demand.d))
    (jog : s.params.stopTime = 0 → s.ctrl.node ≠ .manual ∨ s.jogSelection = none) :
    DriveBlock.StoppedTo s.drive s.driveStop.drive s.params.stopTime := by
  refine ⟨fun on stopTime => ?_, fun on stopTime => ?_, fun resting => ?_, fun still => ?_⟩
  · rw [State.driveStop_of_energized on stopTime]
    rfl
  · have stopping : s.driveStop = s.haltMotor.arriveOff := by
      obtain on | on := on <;> simp [State.driveStop, on, State.enterStopping, stopTime]
    rw [stopping, State.arriveOff_of_no_start (s := s.haltMotor) (start stopTime) (jog stopTime)]
    rfl
  · rw [State.driveStop_of_resting resting, State.withDrive_drive]
  · rw [State.driveStop_of_still still]

/-- A stopped drive stands still. -/
theorem DriveBlock.StoppedTo.still {x y : DriveBlock} {stopTime : Nat} (h : DriveBlock.StoppedTo x y stopTime) :
    y.st = .off ∨ y.st = .stopping ∨ y.st = .faulted := by
  obtain ⟨halted, stopped, rested, stays⟩ := h
  have energized (on : x.st = .starting ∨ x.st = .running) : y.st = .off ∨ y.st = .stopping ∨ y.st = .faulted := by
    by_cases time : stopTime = 0
    · exact .inl (by rw [stopped on time]; rfl)
    · exact .inr (.inl (by rw [halted on time]))
  cases st : x.st
  case starting => exact energized (.inl st)
  case running => exact energized (.inr st)
  case resting => exact .inl (by rw [rested st]; rfl)
  case off => exact .inl (by rw [stays (.inl st), st])
  case stopping => exact .inr (.inl (by rw [stays (.inr (.inl st)), st]))
  case faulted => exact .inr (.inr (by rw [stays (.inr (.inr st)), st]))

theorem DriveBlock.StoppedTo.energizes {x y : DriveBlock} {stopTime : Nat} (h : DriveBlock.StoppedTo x y stopTime) :
    DriveState.energizes y.st = false := by
  obtain st | st | st := h.still <;> rw [st] <;> rfl

/-- A drive that stands still is its own stop. -/
theorem DriveBlock.StoppedTo.of_still {x : DriveBlock} (stopTime : Nat)
    (h : x.st = .off ∨ x.st = .stopping ∨ x.st = .faulted) : DriveBlock.StoppedTo x x stopTime := by
  refine ⟨fun on => ?_, fun on => ?_, fun resting => ?_, fun _ => rfl⟩
  · obtain h | h | h := h <;> simp [h] at on
  · obtain h | h | h := h <;> simp [h] at on
  · obtain h | h | h := h <;> simp [h] at resting

/-! ## A move of the node and its drive (R48, R132) -/

/-- A move from RUN or LOCAL, or to TRIPPED, stops the drive, and nothing starts in a state that is neither RUN nor
LOCAL. -/
theorem State.moveTo_stoppedTo {s : State} {n : NodeState} (ne : n ≠ s.ctrl.node)
    (stops : s.ctrl.node = .run ∨ s.ctrl.node = .manual ∨ n = .tripped) (run : n ≠ .run) (manual : n ≠ .manual) :
    DriveBlock.StoppedTo s.drive (s.moveTo n).drive s.params.stopTime := by
  have stopped (a : State) (node : a.ctrl.node = n) (drive : a.drive = s.drive) (params : a.params = s.params) :
      DriveBlock.StoppedTo s.drive a.driveStop.drive s.params.stopTime := by
    rw [← drive, ← params]
    exact a.driveStop_stoppedTo (node ▸ run) (node ▸ manual)
  simp only [State.moveTo, if_neg ne, if_pos stops, if_neg manual]
  split <;> exact stopped _ (by simp [State.withNode]) (by simp) (by simp)

/-- A move that neither leaves RUN or LOCAL nor enters TRIPPED or LOCAL is no concern of the drive. -/
theorem State.moveTo_drive_of_resting {s : State} {n : NodeState} (leaves : s.ctrl.node ≠ .run ∧ s.ctrl.node ≠ .manual)
    (enters : n ≠ .tripped ∧ n ≠ .manual) : (s.moveTo n).drive = s.drive := by
  obtain ⟨run, manual⟩ := leaves
  obtain ⟨tripped, manual'⟩ := enters
  unfold State.moveTo
  simp only [run, manual, tripped, manual', or_self, if_false]
  split <;> simp

/-- Of a faulted drive a move changes the jog lockout at most. -/
theorem State.moveTo_drive_of_faulted {s : State} (faulted : s.drive.st = .faulted) (n : NodeState) :
    ∃ lockout, (s.moveTo n).drive = { s.drive with lockout := lockout } := by
  have entered (a : State) (p : Prop) [Decidable p] :
      ∃ lockout, (if p then a.noteLocalEntry else a).drive = { a.drive with lockout := lockout } := by
    split
    · exact ⟨false, rfl⟩
    · exact ⟨a.drive.lockout, rfl⟩
  have still (a : State) (ha : a.drive.st = .faulted) (p q : Prop) [Decidable p] [Decidable q] :
      (if q then (if p then a.driveStop else a).startJogIfDue else if p then a.driveStop else a) = a := by
    have stop : a.driveStop = a := State.driveStop_of_still (.inr (.inr ha))
    have jog : a.startJogIfDue = a := by simp [State.startJogIfDue, ha]
    rw [stop, ite_self, jog, ite_self]
  have left : (if s.ctrl.node = .run then (s.withNode n).dropDemand else s.withNode n).drive = s.drive := by
    split <;> rfl
  obtain ⟨lockout, drive⟩ :=
    entered (if s.ctrl.node = .run then (s.withNode n).dropDemand else s.withNode n) (n = .manual)
  unfold State.moveTo
  split
  · exact ⟨s.drive.lockout, rfl⟩
  · exact ⟨lockout, by rw [still _ (by rw [drive, left]; exact faulted), drive, left]⟩

/-! ## The trip request, by the node state (R51 to R53) -/

/-- A request in a serving state with HAND inactive trips: a new record, the drive stopped, and from RUN d and c 0. -/
theorem State.tripRequest_trips {s : State} (cause : TripCause) (serving : NodeState.serving s.ctrl.node = true)
    (hand : s.handActive = false) :
    (s.tripRequest cause).ctrl = { s.ctrl with
        node := .tripped, trip := some { cause := cause, seq := s.line.lastOut, extra := 0 } }
      ∧ DriveBlock.StoppedTo s.drive (s.tripRequest cause).drive s.params.stopTime
      ∧ (s.ctrl.node = .run → (s.tripRequest cause).demand.d = 0 ∧ (s.tripRequest cause).demand.c = 0) := by
  have ne : .tripped ≠ s.ctrl.node := fun same => by simp [← same, NodeState.serving] at serving
  rw [State.tripRequest_eq_of_serving serving hand]
  refine ⟨by simp [State.withTrip, State.newTrip],
    State.moveTo_stoppedTo (s := s.withTrip (some (s.newTrip cause))) ne (.inr (.inr rfl)) (by simp) (by simp),
    fun run => ?_⟩
  rw [State.moveTo_d, State.moveTo_c, if_pos ⟨run, by simp⟩, if_pos ⟨run, by simp⟩]
  exact ⟨rfl, rfl⟩

theorem State.tripRequest_of_standby {s : State} {strap : Bool} (node : s.ctrl.node = .standby strap) (cause :
    TripCause) :
    s.tripRequest cause = s := by
  simp [State.tripRequest, node]

/-- In TRIPPED a request counts (R53). -/
theorem State.tripRequest_of_tripped {s : State} {r : TripRecord} (node : s.ctrl.node = .tripped)
    (trip : s.ctrl.trip = some r) (cause : TripCause) : s.tripRequest cause = s.withTrip (some (TripRecord.count r)) := by
  simp [State.tripRequest, node, trip]

/-- In LOCAL only STALL and DRIVE_FAULT are taken (R51). -/
theorem State.tripRequest_of_manual_passed {s : State} {cause : TripCause} (node : s.ctrl.node = .manual)
    (passed : TripCause.takenInLocal cause = false) : s.tripRequest cause = s := by
  simp [State.tripRequest, node, passed]

theorem State.tripRequest_of_manual_new {s : State} {cause : TripCause} (node : s.ctrl.node = .manual)
    (taken : TripCause.takenInLocal cause = true) (trip : s.ctrl.trip = none) :
    s.tripRequest cause = s.withTrip (some (s.newTrip cause)) := by
  simp [State.tripRequest, node, taken, trip]

theorem State.tripRequest_of_manual_counted {s : State} {cause : TripCause} {r : TripRecord}
    (node : s.ctrl.node = .manual) (taken : TripCause.takenInLocal cause = true) (trip : s.ctrl.trip = some r) :
    s.tripRequest cause = s.withTrip (some (TripRecord.count r)) := by
  simp [State.tripRequest, node, taken, trip]

theorem TripCause.takenInLocal_iff (cause : TripCause) :
    TripCause.takenInLocal cause = true ↔ cause = .stall ∨ cause = .driveFault := by
  cases cause <;> simp [TripCause.takenInLocal]

/-- Settles O21: each node state by its own lemma. -/
theorem tripRequestIsTaken : Obligations.TripRequestIsTaken := by
  intro cause s
  have taken := cause.takenInLocal_iff
  refine ⟨fun strap node => State.tripRequest_of_standby node cause, fun hand node => ?_,
    fun r node trip => State.tripRequest_of_tripped node trip cause, fun node stall fault => ?_,
    fun node either trip => State.tripRequest_of_manual_new node (taken.2 either) trip,
    fun r node either trip => State.tripRequest_of_manual_counted node (taken.2 either) trip⟩
  · obtain ⟨ctrl, stopped, demand⟩ := State.tripRequest_trips cause ((NodeState.serving_iff _).2 node) hand
    exact ⟨ctrl, stopped.energizes, stopped, demand⟩
  · exact State.tripRequest_of_manual_passed node (by rw [← Bool.not_eq_true, taken]; simp [stall, fault])

/-! ## The fault of a drive, the on-time end (R125, R126, R131) -/

/-- Of a faulted drive a trip request changes the jog lockout at most. -/
theorem State.tripRequest_drive_of_faulted {s : State} (faulted : s.drive.st = .faulted) (cause : TripCause) :
    ∃ lockout, (s.tripRequest cause).drive = { s.drive with lockout := lockout } := by
  have trips (r : Option TripRecord) (n : NodeState) : ∃ lockout,
      (((s.withTrip r).moveTo .tripped).moveTo n).drive = { s.drive with lockout := lockout } := by
    obtain ⟨_, first⟩ := State.moveTo_drive_of_faulted (s := s.withTrip r) faulted .tripped
    obtain ⟨lockout, second⟩ := State.moveTo_drive_of_faulted (s := (s.withTrip r).moveTo .tripped)
      (by rw [first]; exact faulted) n
    exact ⟨lockout, by rw [second, first]; rfl⟩
  unfold State.tripRequest
  (repeat' split)
  case h_2 | h_3 | h_4 => exact trips _ _
  all_goals exact ⟨s.drive.lockout, rfl⟩

/-- The drive of a fault stands in FAULTED with its timers off (R131). -/
theorem State.faultDrive_drive (s : State) :
    ∃ lockout, s.faultDrive.drive = { DriveBlock.stoppedAt s.drive .faulted with lockout := lockout } :=
  State.tripRequest_drive_of_faulted
    (s := (s.withDrive (DriveBlock.stoppedAt s.drive .faulted)).raise .driveFault) rfl .driveFault

theorem State.faultDrive_hasEvent (s : State) : hasEvent s.faultDrive.events.flags .driveFault = true :=
  (State.tripRequest_onlyRaises _ _).2.2 .driveFault (State.hasEvent_raise_self _ _)

theorem exec_startTimeout_of_expired {s : State} {x : Timer} (released : s.released = true)
    (starting : s.drive.st = .starting) (waits : s.drdyActive = false) (timer : s.drive.phase = some x)
    (left : x.left = 0) : exec .startTimeout s = .next s.faultDrive := by
  rw [show exec .startTimeout s = execStartTimeout s from rfl, execStartTimeout,
    if_pos ⟨released, starting, waits, (timerRunOut_iff _).2 ⟨x, timer, left⟩⟩]

theorem exec_startTimeout_of_idle {s : State}
    (h : (s.drive.st ≠ .starting ∨ s.drdyActive = true) ∨ timerRunOut s.drive.phase = false) :
    exec .startTimeout s = .next s := by
  rw [show exec .startTimeout s = execStartTimeout s from rfl, execStartTimeout, if_neg]
  rintro ⟨-, starting, waits, expired⟩
  simp [starting, waits, expired] at h

theorem State.onTimeOver_iff {s : State} {x : Timer} (on : s.drive.st = .starting ∨ s.drive.st = .running)
    (jog : s.drive.jog = false) (period : s.drive.period = some x) :
    s.onTimeOver = true ↔ 100 * s.drive.onTime ≤ x.length - x.left := by
  have energized : DriveState.energizes s.drive.st = true := by obtain on | on := on <;> rw [on] <;> rfl
  simp [State.onTimeOver, energized, jog, period, DriveBlock.onTimeLeft, Nat.sub_eq_zero_iff_le]

/-- Settles O38: START_TIMEOUT by the fault of the drive, ON_TIME_END by the time the period timer has run. -/
theorem startTimeoutAndOnTimeEnd : Obligations.StartTimeoutAndOnTimeEnd := by
  refine ⟨fun s released => ⟨fun h => exec_startTimeout_of_idle (.inl h), fun x timer left => ?_,
    fun x starting waits timer left => ?_⟩, fun s released on jog x period => ?_⟩
  · exact exec_startTimeout_of_idle (.inr (by simpa [timer, timerRunOut] using left))
  · obtain ⟨lockout, drive⟩ := s.faultDrive_drive
    refine ⟨_, exec_startTimeout_of_expired released starting waits timer left, ?_⟩
    rw [drive]
    refine ⟨rfl, rfl, rfl, rfl, rfl, rfl, rfl, s.faultDrive_hasEvent, fun run hand => ?_, fun manual trip => ?_,
      s.faultDrive_frame, s.faultDrive_reacts.raises⟩
    · exact (State.tripRequest_trips (s := (s.withDrive (DriveBlock.stoppedAt s.drive .faulted)).raise .driveFault)
        .driveFault (by simp [run, NodeState.serving]) hand).1
    · rw [State.faultDrive_eq, State.tripRequest_of_manual_new (by simpa using manual) rfl (by simpa using trip)]
      rfl
  · have ended := State.onTimeOver_iff on jog period
    rw [show exec .onTimeEnd s = execOnTimeEnd s from rfl, execOnTimeEnd]
    refine ⟨fun run => ?_, fun run => ?_⟩
    · rw [if_pos ⟨released, ended.2 run⟩]
      rfl
    · rw [if_neg fun h => absurd (ended.1 h.2) (by omega)]

/-! ## The drive reset (R57 to R60) -/

theorem State.jointPasses_iff (s : State) : s.jointPasses = true ↔ s.power.role = .endNode
    ∨ (s.joint.valid = true ∧ ∃ r, s.joint.reading = some r
        ∧ (jointAngle s.params r).natAbs < s.params.safetyLimit) := by
  cases reading : s.joint.reading <;> simp [State.jointPasses, State.isEnd, reading]

theorem State.driveResetPasses_iff (s : State) : s.driveResetPasses = true ↔ s.DriveResetAccepted := by
  simp [State.driveResetPasses, State.DriveResetAccepted, State.jointPasses_iff, and_assoc]

/-- The node in IDLE as an accepted drive reset leaves it, before it is evaluated (R59, R113). -/
def State.rearmed (s : State) : State :=
  ((if s.drive.st = .faulted then s.driveOff else s).withWheel (WheelBlock.restart s.wheel)).withCtrl
    { s.ctrl with trip := none, driveResult := .done, node := .idle }

theorem State.rearmed_drive {s : State} (h : s.drive.st = .off ∨ s.drive.st = .faulted) :
    s.rearmed.drive.st = .off := by
  unfold State.rearmed
  split
  · rfl
  · next not => exact h.resolve_right not

theorem State.acceptDriveReset_eq (s : State) : s.acceptDriveReset = s.rearmed.moveTo s.tableState := by
  have rearmed : s.acceptDriveReset = s.rearmed.evaluate := by
    unfold State.acceptDriveReset State.rearmed
    simp only
    split <;> simp
  have table : s.rearmed.tableState = s.tableState := by
    have same : s.rearmed.table = s.table ∧ s.rearmed.inputs = s.inputs ∧ s.rearmed.slot = s.slot := by
      unfold State.rearmed
      split <;> simp
    obtain ⟨table, inputs, slot⟩ := same
    exact State.tableState_congr (State.params_congr table) inputs slot rfl rfl
  rw [rearmed, State.evaluate_of_serving rfl, table]

theorem exec_driveReset_of_owned {s : State} (released : s.released = true) (waiting : s.line.waitingReset = none)
    (low : 1 ≤ s.power.index.toNat) (high : s.power.index.toNat ≤ 30) :
    exec .driveReset s = .next s.applyDriveReset := by
  rw [show exec .driveReset s = execDriveReset s from rfl, execDriveReset,
    if_pos ⟨State.stagesRun_of released waiting, s.indexValid_iff.2 ⟨low, high⟩⟩]

/-- Settles O22: the judgement is that of R58, and the accepted reset is a move from IDLE. -/
theorem driveResetIsJudged : Obligations.DriveResetIsJudged := by
  intro s released waiting low high
  rw [exec_driveReset_of_owned released waiting low high]
  refine ⟨fun tripped accepted => ?_, fun tripped refused => ?_, fun elsewhere => ?_⟩
  · have frame := s.applyDriveReset_frame
    have raises := s.applyDriveReset_reacts.raises
    have taken : s.applyDriveReset = s.rearmed.moveTo s.tableState := by
      rw [State.applyDriveReset, if_pos tripped, if_pos (s.driveResetPasses_iff.2 accepted), s.acceptDriveReset_eq]
    obtain ⟨-, -, drive⟩ := accepted
    have wheel : s.rearmed.wheel = WheelBlock.restart s.wheel := rfl
    rw [taken] at frame raises ⊢
    refine ⟨_, rfl, by rw [State.moveTo_ctrl]; rfl, by rw [State.moveTo_wheel, wheel]; rfl, fun manual => ?_, frame,
      raises⟩
    have tripped' : s.tableState ≠ .tripped := by
      rw [← State.servingState_eq_tableState]
      exact s.servingState_ne_tripped
    rw [State.moveTo_drive_of_resting (by simp [State.rearmed]) ⟨tripped', manual⟩, State.rearmed_drive drive]
  · have judged : s.driveResetPasses = false := by rwa [← Bool.not_eq_true, s.driveResetPasses_iff]
    simp [State.applyDriveReset, tripped, judged]
  · rw [State.applyDriveReset, if_neg elsewhere]

end Sys2Proof.Machine
end

section
/-! SUPPORT. The conditions of stage 4 (R79 to R81, R83, R84, R87): what a start adds to the cause and sticky sets, and
what the input step and the steps of the computation leave in them. -/

namespace Sys2Proof.Machine

/-! ## The relation: SHORT at most (R124) -/

/-- `t` is `s` with flags raised and, of the conditions, SHORT raised at most. -/
structure State.AddsShort (s t : State) : Prop where
  raises : State.OnlyRaises s t
  conditions : (t.demand.causes = s.demand.causes ∧ t.demand.sticky = s.demand.sticky)
    ∨ (t.demand.causes = Conditions.add s.demand.causes .short ∧ t.demand.sticky = Conditions.add s.demand.sticky .short
      ∧ hasEvent t.events.flags .condition = true)

theorem State.AddsShort.refl (s : State) : s.AddsShort s := ⟨.refl s, .inl ⟨rfl, rfl⟩⟩

theorem State.AddsShort.trans {s t u : State} (h : s.AddsShort t) (k : t.AddsShort u) : s.AddsShort u := by
  refine ⟨h.raises.trans k.raises, ?_⟩
  obtain ⟨-, -, kept⟩ := k.raises
  obtain ⟨c1, s1⟩ | ⟨c1, s1, e1⟩ := h.conditions <;> obtain ⟨c2, s2⟩ | ⟨c2, s2, e2⟩ := k.conditions <;>
    rw [c2, s2, c1, s1]
  · exact .inl ⟨rfl, rfl⟩
  · exact .inr ⟨rfl, rfl, e2⟩
  · exact .inr ⟨rfl, rfl, kept _ e1⟩
  · exact .inr ⟨rfl, rfl, e2⟩

theorem State.AddsShort.of_demand {s t : State} (raises : State.OnlyRaises s t) (demand : t.demand = s.demand) :
    s.AddsShort t := ⟨raises, .inl (by rw [demand]; exact ⟨rfl, rfl⟩)⟩

theorem State.AddsShort.of_quiet {s t : State} (events : t.events = s.events) (demand : t.demand = s.demand) :
    s.AddsShort t := .of_demand (.of_events events) demand

theorem State.AddsShort.ite {s t : State} {p : Prop} [Decidable p] (act : s.AddsShort t) :
    s.AddsShort (if p then t else s) := by
  split
  · exact act
  · exact .refl s

theorem State.startIfDue_addsShort (s : State) : s.AddsShort s.startIfDue := by
  have short (b : Bool) : s.AddsShort (s.raiseConditionIf b .short) := by
    cases b
    · exact .refl s
    · exact ⟨s.raiseCondition_onlyRaises .short, .inr ⟨rfl, rfl, State.hasEvent_raise_self _ _⟩⟩
  unfold State.startIfDue State.startDutyPeriod
  simp only
  (repeat' split)
  · exact (short _).trans (.of_quiet rfl rfl)
  · exact (short _).trans (.of_quiet rfl rfl)
  · exact .of_quiet rfl rfl
  · exact .refl s

theorem State.arriveOff_addsShort (s : State) : s.AddsShort s.arriveOff := by
  have off : s.AddsShort s.driveOff := .of_quiet rfl rfl
  have ready (a : State) : a.AddsShort a.takeReady := .of_quiet (by simp) (by simp)
  have jog (a : State) : a.AddsShort a.startJogIfDue := .of_quiet (by simp) (by simp)
  exact ((off.trans (State.startIfDue_addsShort _)).trans (ready _)).trans (jog _)

theorem State.driveStop_addsShort (s : State) : s.AddsShort s.driveStop := by
  have halted : s.AddsShort s.haltMotor := .of_quiet rfl rfl
  have stop : s.AddsShort s.enterStopping := by
    unfold State.enterStopping
    split
    · exact halted.trans (State.arriveOff_addsShort _)
    · exact halted
  unfold State.driveStop
  split
  · exact stop
  · exact stop
  · exact .of_quiet rfl rfl
  all_goals exact .refl s

theorem State.moveTo_addsShort (s : State) (n : NodeState) : s.AddsShort (s.moveTo n) := by
  have leave (a : State) (p : Prop) [Decidable p] : a.AddsShort (if p then a.dropDemand else a) :=
    .ite ⟨.of_events rfl, .inl ⟨rfl, rfl⟩⟩
  have enter (a : State) (p : Prop) [Decidable p] : a.AddsShort (if p then a.noteLocalEntry else a) :=
    .ite (.of_demand a.noteLocalEntry_onlyRaises (by simp))
  have stop (a : State) (p : Prop) [Decidable p] : a.AddsShort (if p then a.driveStop else a) :=
    .ite a.driveStop_addsShort
  have jog (a : State) (p : Prop) [Decidable p] : a.AddsShort (if p then a.startJogIfDue else a) :=
    .ite (.of_quiet (by simp) (by simp))
  have node : s.AddsShort (s.withNode n) := .of_quiet rfl rfl
  unfold State.moveTo
  split
  · exact .refl s
  · exact (((node.trans (leave _ _)).trans (enter _ _)).trans (stop _ _)).trans (jog _ _)

theorem State.tripRequest_addsShort (s : State) (cause : TripCause) : s.AddsShort (s.tripRequest cause) := by
  have trip (r : Option TripRecord) : s.AddsShort (s.withTrip r) := .of_quiet rfl rfl
  unfold State.tripRequest
  (repeat' split)
  case h_1 => exact .refl s
  case h_2 | h_3 | h_4 => exact ((trip _).trans (State.moveTo_addsShort _ _)).trans (State.moveTo_addsShort _ _)
  all_goals exact .of_quiet rfl rfl

theorem State.safeRequest_addsShort (s : State) : s.AddsShort s.safeRequest :=
  (State.AddsShort.of_demand (s.raise_onlyRaises .safety) (by simp)).trans (State.tripRequest_addsShort _ _)

theorem State.evaluate_addsShort (s : State) : s.AddsShort s.evaluate :=
  (s.moveTo_addsShort _).trans (.ite (State.safeRequest_addsShort _))

theorem State.beginMotion_addsShort (s : State) (f : Frame) : s.AddsShort (s.beginMotion f) := by
  have mode : s.AddsShort (s.withCtrl { s.ctrl with machineRun := frameMachineRun f }) := .of_quiet rfl rfl
  have woken (a : State) : a.AddsShort (if a.ctrl.node = .standby false then a.withNode .idle else a) :=
    .ite (.of_quiet rfl rfl)
  exact (mode.trans (woken _)).trans ((State.moveTo_addsShort _ _).trans (.ite (State.safeRequest_addsShort _)))

theorem State.handDemandOver_addsShort (s : State) (f : Frame) (candidate : Nat) :
    s.AddsShort (s.handDemandOver f candidate) := by
  have turned : s.AddsShort (s.withDrive { s.drive with dirRecord := frameDirection f }).changeDirection :=
    .of_quiet (by simp) (by simp)
  have settle (a : State) : a.AddsShort (a.settleDemand candidate) := ⟨.of_events rfl, .inl ⟨rfl, rfl⟩⟩
  have act (a : State) : a.AddsShort a.actOnDemand := by
    unfold State.actOnDemand State.actDuty State.actRate
    (repeat' split)
    all_goals first | exact a.startIfDue_addsShort | exact .of_quiet (by simp) (by simp)
  exact (turned.trans (settle _)).trans (act _)

/-! ## The requests as a list (R54) -/

/-- The causes of the requests, in the order in which they are taken. -/
def TripRequests.toList (r : TripRequests) : List TripCause :=
  r.capture.toList ++ (if r.joint then [.joint] else []) ++ (if r.overSpeed then [.overSpeed] else [])
    ++ (if r.underSpeed then [.underSpeed] else []) ++ (if r.field then [.field] else [])

/-- `s` after requests of these causes, one after the other. -/
def State.requestAll (s : State) (causes : List TripCause) : State := causes.foldl State.tripRequest s

theorem State.requestAll_append (s : State) (l m : List TripCause) :
    s.requestAll (l ++ m) = (s.requestAll l).requestAll m := List.foldl_append

theorem State.requestAll_ite (s : State) (b : Bool) (cause : TripCause) :
    s.requestAll (if b then [cause] else []) = s.tripRequestIf b cause := by
  cases b <;> rfl

theorem State.takeRequests_eq (s : State) (r : TripRequests) : s.takeRequests r = s.requestAll r.toList := by
  have capture : s.requestAll r.capture.toList = match r.capture with
      | none => s
      | some cause => s.tripRequest cause := by
    cases r.capture <;> rfl
  simp only [TripRequests.toList, State.requestAll_append, State.requestAll_ite, capture]
  rfl

theorem State.requestAll_addsShort (s : State) (l : List TripCause) : s.AddsShort (s.requestAll l) := by
  induction l generalizing s with
  | nil => exact .refl s
  | cons cause rest ih => exact (s.tripRequest_addsShort cause).trans (ih _)

/-! ## The input step and the steps (R66, R79, R83, R84, R87) -/

/-- With a condition in the cause set event CONDITION stands (R81). -/
def State.ConditionNoted (s : State) : Prop :=
  s.demand.causes ≠ Conditions.none → hasEvent s.events.flags .condition = true

theorem Conditions.code_eq_zero_iff (x : Conditions) : Conditions.code x = 0#8 ↔ x = Conditions.none := by
  obtain ⟨joint, overSpeed, underSpeed, nocap, short, field⟩ := x
  revert joint overSpeed underSpeed nocap short field
  decide

theorem State.raiseConditionIf_noted {s : State} (h : s.ConditionNoted) (b : Bool) (x : Condition) :
    (s.raiseConditionIf b x).ConditionNoted := by
  cases b
  · exact h
  · exact fun _ => State.hasEvent_raise_self _ _

theorem State.AddsShort.noted {s t : State} (h : s.AddsShort t) (k : s.ConditionNoted) : t.ConditionNoted := by
  obtain ⟨-, -, kept⟩ := h.raises
  obtain ⟨causes, -⟩ | ⟨-, -, event⟩ := h.conditions
  · exact fun member => kept _ (k (causes ▸ member))
  · exact fun _ => event

theorem State.freshAngle_eq_none_iff (s : State) :
    s.freshAngle = none ↔ s.joint.valid = false ∨ s.joint.reading = none := by
  cases valid : s.joint.valid <;> simp [State.freshAngle, valid]

/-- The angle used is held at a MID node without a valid reading (R83, R95, R103). -/
theorem State.angleHeld_eq (s : State) :
    s.angleHeld = decide (s.power.role = .mid ∧ (s.joint.valid = false ∨ s.joint.reading = none)) := by
  have role : s.isEnd = false ↔ s.power.role = .mid := by
    cases h : s.power.role <;> simp [State.isEnd, h]
  rw [Bool.eq_iff_iff, decide_eq_true_iff, ← State.freshAngle_eq_none_iff, ← role]
  simp [State.angleHeld]

/-- The joint angle raises JOINT when it is held, and no other condition (R83). -/
theorem State.takeJoint_conditions (s : State) :
    s.takeJoint.demand.causes = { s.demand.causes with joint := s.demand.causes.joint || s.angleHeld }
      ∧ s.takeJoint.demand.sticky = { s.demand.sticky with joint := s.demand.sticky.joint || s.angleHeld } := by
  unfold State.takeJoint
  split
  · next last => simp [State.angleHeld, last]
  · next mid =>
    split
    · next theta fresh =>
      have held : s.angleHeld = false := by simp [State.angleHeld, fresh]
      simp [State.takeValidAngle, held]
    · next held =>
      have held : s.angleHeld = true := by simpa [State.angleHeld, held] using mid
      simp [State.takeHeldAngle, State.raiseCondition, Conditions.add, held]

theorem State.takeJoint_noted {s : State} (h : s.ConditionNoted) : s.takeJoint.ConditionNoted := by
  obtain ⟨causes, -⟩ := s.takeJoint_conditions
  obtain ⟨-, -, kept⟩ := s.takeJoint_reacts.raises
  cases held : s.angleHeld
  · intro member
    rw [causes, held, Bool.or_false] at member
    exact kept _ (h member)
  · simp only [State.angleHeld, Bool.and_eq_true, Bool.not_eq_true', Option.isNone_iff_eq_none] at held
    obtain ⟨mid, none⟩ := held
    intro _
    have raised : hasEvent (((s.withJoint { s.joint with
        fresh := false, valid := false, holdCount := s.heldCount }).withDemand { s.demand with
          theta := s.joint.lastTheta }).raiseCondition .joint).events.flags .condition = true :=
      State.hasEvent_raise_self _ _
    simpa [State.takeJoint, mid, none, State.takeHeldAngle] using
      (State.raiseIf_onlyRaises _ (decide (s.heldCount = s.params.holdLimit)) .sensorLost).2.2 _ raised

theorem State.raiseConditionIf_demand (s : State) (b : Bool) (x : Condition) :
    (s.raiseConditionIf b x).demand = if b then { s.demand with
      causes := Conditions.add s.demand.causes x, sticky := Conditions.add s.demand.sticky x } else s.demand := by
  cases b <;> rfl

/-- The state in which the joint angle is taken: the lookup made and FIELD raised (R66, R79, R87). -/
def State.fielded (s : State) (f : Frame) : State :=
  ((s.withDemand { s.demand with causes := Conditions.none }).lookupAngle f).raiseConditionIf (headerFieldBad f) .field

theorem State.inputStep_eq (s : State) (f : Frame) : s.inputStep f = (s.fielded f).takeJoint := rfl

theorem State.angleHeld_congr {s t : State} (power : t.power = s.power) (joint : t.joint = s.joint) :
    t.angleHeld = s.angleHeld := by
  rw [State.angleHeld_eq, State.angleHeld_eq, power, joint]

/-- The state with every condition of the computation raised, before the requests are taken. -/
def State.computed (s : State) (f : Frame) : State := (s.computing f).raiseMotion ((s.computing f).motion f)

theorem State.raiseMotion_conditions (s : State) (m : MotionResult) :
    (s.raiseMotion m).demand.causes = { s.demand.causes with
        overSpeed := s.demand.causes.overSpeed || m.overSpeed
        underSpeed := s.demand.causes.underSpeed || m.underSpeed
        nocap := s.demand.causes.nocap || m.nocap }
      ∧ (s.raiseMotion m).demand.sticky = { s.demand.sticky with
        overSpeed := s.demand.sticky.overSpeed || m.overSpeed
        underSpeed := s.demand.sticky.underSpeed || m.underSpeed
        nocap := s.demand.sticky.nocap || m.nocap } := by
  simp only [State.raiseMotion, State.raiseConditionIf_demand]
  cases m.overSpeed <;> cases m.underSpeed <;> cases m.nocap <;> simp [Conditions.add]

/-- Of the emptied cause set the input step raises JOINT and FIELD (R79, R83, R87). -/
theorem State.inputStep_conditions (s : State) (f : Frame) :
    (s.inputStep f).demand.causes = { Conditions.none with joint := s.angleHeld, field := headerFieldBad f }
      ∧ (s.inputStep f).demand.sticky = { s.demand.sticky with
        joint := s.demand.sticky.joint || s.angleHeld, field := s.demand.sticky.field || headerFieldBad f } := by
  have held : (s.fielded f).angleHeld = s.angleHeld :=
    State.angleHeld_congr (by simp [State.fielded]) (by simp [State.fielded])
  obtain ⟨causes, sticky⟩ := (s.fielded f).takeJoint_conditions
  rw [State.inputStep_eq, causes, sticky, held, State.fielded, State.raiseConditionIf_demand]
  cases headerFieldBad f <;> simp [Conditions.add, Conditions.none]

/-- The cause set of a computation holds the conditions that hold in it, and the sticky set gains them (R79, R80). -/
theorem State.computed_conditions (s : State) (f : Frame) :
    (s.computed f).demand.causes =
        { joint := s.angleHeld
          overSpeed := (s.stageResult f).overSpeed
          underSpeed := (s.stageResult f).underSpeed
          nocap := (s.stageResult f).nocap
          short := false
          field := headerFieldBad f }
      ∧ (s.computed f).demand.sticky =
        { joint := (s.beginMotion f).demand.sticky.joint || s.angleHeld
          overSpeed := (s.beginMotion f).demand.sticky.overSpeed || (s.stageResult f).overSpeed
          underSpeed := (s.beginMotion f).demand.sticky.underSpeed || (s.stageResult f).underSpeed
          nocap := (s.beginMotion f).demand.sticky.nocap || (s.stageResult f).nocap
          short := (s.beginMotion f).demand.sticky.short
          field := (s.beginMotion f).demand.sticky.field || headerFieldBad f } := by
  have held : (s.beginMotion f).angleHeld = s.angleHeld := State.angleHeld_congr (by simp) (by simp)
  obtain ⟨causes, sticky⟩ := (s.beginMotion f).inputStep_conditions f
  obtain ⟨causes', sticky'⟩ := (s.computing f).raiseMotion_conditions ((s.computing f).motion f)
  rw [State.computed, causes', sticky', State.computing, causes, sticky, held, s.stageResult_eq f]
  simp [Conditions.none, State.computing]

theorem State.computed_noted (s : State) (f : Frame) : (s.computed f).ConditionNoted := by
  have emptied : (((s.beginMotion f).withDemand { (s.beginMotion f).demand with
      causes := Conditions.none }).lookupAngle f).ConditionNoted := fun member => by simp at member
  exact State.raiseConditionIf_noted (State.raiseConditionIf_noted (State.raiseConditionIf_noted
    (State.takeJoint_noted (State.raiseConditionIf_noted emptied _ _)) _ _) _ _) _ _

/-- After the requests stage 4 raises SHORT at most. -/
theorem State.computed_addsShort (s : State) (f : Frame) : (s.computed f).AddsShort (s.stageMotion f) := by
  have requested : (s.computed f).AddsShort (s.requested f) := by
    rw [State.requested, State.takeRequests_eq]
    exact State.requestAll_addsShort _ _
  have settle (a : State) (c : Nat) : a.AddsShort (a.settleContribution c) := ⟨.of_events rfl, .inl ⟨rfl, rfl⟩⟩
  rw [State.stageMotion_eq]
  exact ((requested.trans (State.evaluate_addsShort _)).trans (settle _ _)).trans (State.handDemandOver_addsShort _ f _)

/-- The conditions that stage 4 leaves: those of the computation, and SHORT as its drive action raises it. -/
theorem State.stageMotion_conditions (s : State) (f : Frame) :
    (s.stageMotion f).demand.causes = { (s.stageMotion f).demand.causes with
          joint := s.angleHeld
          overSpeed := (s.stageResult f).overSpeed
          underSpeed := (s.stageResult f).underSpeed
          nocap := (s.stageResult f).nocap
          field := headerFieldBad f }
      ∧ (s.stageMotion f).demand.sticky = { (s.stageMotion f).demand.sticky with
          joint := s.demand.sticky.joint || s.angleHeld
          overSpeed := s.demand.sticky.overSpeed || (s.stageResult f).overSpeed
          underSpeed := s.demand.sticky.underSpeed || (s.stageResult f).underSpeed
          nocap := s.demand.sticky.nocap || (s.stageResult f).nocap
          field := s.demand.sticky.field || headerFieldBad f }
      ∧ ((s.stageMotion f).demand.causes.short = true → (s.stageMotion f).demand.sticky.short = true) := by
  obtain ⟨causes, sticky⟩ := s.computed_conditions f
  have begun : ∃ short, (s.beginMotion f).demand.sticky = { s.demand.sticky with short := short } := by
    obtain ⟨-, kept⟩ | ⟨-, added, -⟩ := (s.beginMotion_addsShort f).conditions
    · exact ⟨_, kept⟩
    · exact ⟨_, added⟩
  obtain ⟨short, begun⟩ := begun
  rw [begun] at sticky
  obtain ⟨causes', sticky'⟩ | ⟨causes', sticky', -⟩ := (s.computed_addsShort f).conditions <;>
    rw [causes', sticky', causes, sticky] <;> simp [Conditions.add]

end Sys2Proof.Machine
end

section
/-! SUPPORT. The trip requests and the node through stage 4 (R44 to R46, R52 to R54, R97, R98, R132): where the first
evaluation leaves the node, what the requests in their order and the second evaluation do to it and to its drive, and
the obligations about them. -/

namespace Sys2Proof.Machine

/-! ## Requests one after the other (R51 to R54) -/

theorem State.requestAll_of_passed {s : State} {l : List TripCause} (h : ∀ cause ∈ l, s.tripRequest cause = s) :
    s.requestAll l = s := by
  induction l with
  | nil => rfl
  | cons cause rest ih =>
    have first : s.requestAll (cause :: rest) = (s.tripRequest cause).requestAll rest := rfl
    rw [first, h cause (by simp), ih fun c hc => h c (by simp [hc])]

theorem State.withTrip_withTrip (s : State) (r q : Option TripRecord) : (s.withTrip r).withTrip q = s.withTrip q := rfl

/-- In TRIPPED every request counts, up to 255 (R53). -/
theorem State.requestAll_of_tripped {s : State} {r : TripRecord} (node : s.ctrl.node = .tripped)
    (trip : s.ctrl.trip = some r) (extra : r.extra ≤ 255) (l : List TripCause) :
    s.requestAll l = s.withTrip (some { r with extra := min 255 (r.extra + l.length) }) := by
  induction l generalizing s r with
  | nil =>
    have same : ({ r with extra := min 255 (r.extra + 0) } : TripRecord) = r := by
      rw [Nat.add_zero, Nat.min_eq_right extra]
    rw [List.length_nil, same, ← trip]
    rfl
  | cons cause rest ih =>
    have first : s.requestAll (cause :: rest) = (s.tripRequest cause).requestAll rest := rfl
    rw [first, State.tripRequest_of_tripped node trip,
      ih (s := s.withTrip (some (TripRecord.count r))) node rfl (Nat.min_le_left _ _)]
    have counted : min 255 (min 255 (r.extra + 1) + rest.length) = min 255 (r.extra + (rest.length + 1)) := by omega
    rw [State.withTrip_withTrip, TripRecord.count, counted, List.length_cons]

theorem State.requestAll_node_of_tripped {s : State} (node : s.ctrl.node = .tripped) (l : List TripCause) :
    (s.requestAll l).ctrl.node = .tripped := by
  induction l generalizing s with
  | nil => exact node
  | cons cause rest ih =>
    refine ih (s := s.tripRequest cause) ?_
    simp [State.tripRequest, node, State.withTrip]

/-- In a serving state with HAND inactive the first request trips and the others count (R52, R53). -/
theorem State.requestAll_of_serving {s : State} (serving : NodeState.serving s.ctrl.node = true)
    (hand : s.handActive = false) (cause : TripCause) {rest : List TripCause} (few : rest.length ≤ 255) :
    s.requestAll (cause :: rest) = (s.tripRequest cause).withTrip
      (some { cause := cause, seq := s.line.lastOut, extra := rest.length }) := by
  have first : s.requestAll (cause :: rest) = (s.tripRequest cause).requestAll rest := rfl
  obtain ⟨ctrl, -, -⟩ := State.tripRequest_trips cause serving hand
  rw [first, State.requestAll_of_tripped (r := { cause := cause, seq := s.line.lastOut, extra := 0 }) (by rw [ctrl])
    (by rw [ctrl]) (Nat.zero_le _)]
  simp [few]

/-! ## The requests of a computation (R54, R82, R96, R97) -/

theorem State.captureRequest_not_local {s : State} {cause : TripCause} (h : cause ∈ s.captureRequest.toList) :
    TripCause.takenInLocal cause = false := by
  unfold State.captureRequest at h
  (repeat' split at h) <;> simp at h <;> rw [h] <;> rfl

theorem State.tripRequests_not_local {s : State} {f : Frame} {cause : TripCause} (h : cause ∈ s.tripRequests f) :
    TripCause.takenInLocal cause = false := by
  have one {p : Prop} [Decidable p] {c : TripCause} (hc : cause ∈ if p then [c] else []) : cause = c := by
    split at hc
    · simpa using hc
    · simp at hc
  simp only [State.tripRequests, List.mem_append] at h
  obtain (((h | h) | h) | h) | h := h
  · exact State.captureRequest_not_local h
  all_goals rw [one h]; rfl

theorem State.tripRequests_length (s : State) (f : Frame) : (s.tripRequests f).length ≤ 5 := by
  have one (p : Prop) [Decidable p] (c : TripCause) : (if p then [c] else []).length ≤ 1 := by split <;> simp
  have capture : s.captureRequest.toList.length ≤ 1 := by cases s.captureRequest <;> simp
  have joint := one ((s.stageMotion f).demand.causes.joint = true ∧ s.params.tripEnables.joint = true) .joint
  have overs := one ((s.stageResult f).overSpeed = true ∧ s.params.tripEnables.overSpeed = true) .overSpeed
  have unders := one ((s.stageResult f).underSpeed = true ∧ s.params.tripEnables.underSpeed = true) .underSpeed
  have field := one (headerFieldBad f = true ∧ s.params.tripEnables.field = true) .field
  simp only [State.tripRequests, List.length_append]
  omega

theorem State.stageMotion_causes_joint (s : State) (f : Frame) :
    (s.stageMotion f).demand.causes.joint = s.angleHeld := by
  obtain ⟨causes, -⟩ := s.stageMotion_conditions f
  rw [causes]

/-- The requests that stage 4 takes are those of the claims, in their order. -/
theorem State.requested_eq (s : State) (f : Frame) : s.requested f = (s.computed f).requestAll (s.tripRequests f) := by
  have held : (s.beginMotion f).angleHeld = s.angleHeld := State.angleHeld_congr (by simp) (by simp)
  have capture : (s.beginMotion f).captureRequest = s.captureRequest :=
    State.captureRequest_congr (by simp) (by simp) (by simp)
  have list : ((s.beginMotion f).requestsOf f ((s.computing f).motion f)).toList = s.tripRequests f := by
    simp [TripRequests.toList, State.requestsOf, State.tripRequests, held, capture, s.stageResult_eq f,
      s.stageMotion_causes_joint f]
  rw [State.requested, State.takeRequests_eq, list]
  rfl

/-! ## The first evaluation (R44 to R46) -/

/-- `s` with the machine mode record of the frame (R44). -/
def State.withMode (s : State) (f : Frame) : State := s.withCtrl { s.ctrl with machineRun := frameMachineRun f }

/-- The state that the first evaluation evaluates: the mode copied, and plain STANDBY left for IDLE (R44, R46). -/
def State.entering (s : State) (f : Frame) : State := s.woken.withMode f

theorem State.beginMotion_eq (s : State) (f : Frame) : s.beginMotion f = (s.entering f).firstEvaluate :=
  s.beginMotion_woken f

/-- On the way in, only the State Controller is written: the mode, and the node state of a node in plain STANDBY. -/
theorem State.entering_eq (s : State) (f : Frame) : s.entering f = (s.withMode f).withNode
    (if s.ctrl.node = .standby false then .idle else s.ctrl.node) := by
  unfold State.entering State.woken
  split <;> rfl

theorem State.entering_node (s : State) (f : Frame) :
    (s.entering f).ctrl.node = if s.ctrl.node = .standby false then .idle else s.ctrl.node := by
  rw [State.entering_eq]
  rfl

theorem State.entering_not_plain (s : State) (f : Frame) : (s.entering f).ctrl.node ≠ .standby false :=
  s.woken_not_plain

theorem State.entering_of_not_plain {s : State} (plain : s.ctrl.node ≠ .standby false) (f : Frame) :
    s.entering f = s.withMode f := by
  rw [State.entering, State.woken_of_not_plain plain]

theorem State.entering_inputActive (s : State) (f : Frame) (i : InputName) :
    (s.entering f).inputActive i = s.inputActive i := by
  rw [State.entering_eq]
  rfl

/-- The first evaluation moves the node where the evaluation says, and trips it by SAFE when that is a serving state
with SAFE inactive (R46). -/
theorem State.beginMotion_cases (s : State) (f : Frame) :
    (NodeState.serving (s.entering f).evaluated = true ∧ s.safeActive = false
        ∧ s.beginMotion f = ((s.entering f).moveTo (s.entering f).evaluated).safeRequest)
      ∨ ((NodeState.serving (s.entering f).evaluated = false ∨ s.safeActive = true)
        ∧ s.beginMotion f = (s.entering f).moveTo (s.entering f).evaluated) := by
  have safe : ((s.entering f).moveTo (s.entering f).evaluated).safeActive = s.safeActive :=
    (State.inputActive_congr (by simp) (by simp) .safe).trans (s.entering_inputActive f .safe)
  rw [State.beginMotion_eq, State.firstEvaluate]
  simp only [if_neg (s.entering_not_plain f), safe]
  split
  · next h => exact .inl ⟨h.1, h.2, rfl⟩
  · next h =>
    exact .inr ⟨by simpa using not_and_or.1 h, rfl⟩

theorem State.evaluated_of_hand {s : State} (hand : s.handActive = true) (standby : ∀ b, s.ctrl.node ≠ .standby b) :
    s.evaluated = .manual := by
  unfold State.evaluated
  split
  case h_1 b h => exact absurd h (standby b)
  all_goals simp [State.servingState, hand]

theorem State.evaluated_ne_manual {s : State} (hand : s.handActive = false) : s.evaluated ≠ .manual := by
  have serving : s.servingState ≠ .manual := by
    rw [State.servingState_eq_tableState]
    exact State.tableState_ne_manual hand
  unfold State.evaluated
  split
  case h_1 => simp
  case h_6 =>
    rw [if_neg (by simp [hand])]
    split
    · simp
    · exact serving
  case h_5 => simp [hand]
  all_goals exact serving

/-- HAND takes every node but one in strap fault to LOCAL at the first evaluation (R45, R46, log 13). -/
theorem State.beginMotion_of_hand {s : State} (f : Frame) (strap : s.ctrl.node ≠ .standby true)
    (hand : s.handActive = true) : (s.beginMotion f).ctrl.node = .manual := by
  have standby (b : Bool) : (s.entering f).ctrl.node ≠ .standby b := by
    rw [State.entering_node]
    split
    · simp
    · next plain => cases b <;> assumption
  have manual := State.evaluated_of_hand ((s.entering_inputActive f .hand).trans hand) standby
  obtain ⟨serving, -⟩ | ⟨-, moved⟩ := s.beginMotion_cases f
  · simp [manual, NodeState.serving] at serving
  · simp [moved, manual]

/-- Only HAND takes a node to LOCAL (R45). -/
theorem State.hand_of_beginMotion_manual {s : State} {f : Frame} (manual : (s.beginMotion f).ctrl.node = .manual) :
    s.handActive = true := by
  rw [← Bool.not_eq_false]
  intro hand
  have hand' : (s.entering f).handActive = false := (s.entering_inputActive f .hand).trans hand
  obtain ⟨serving, -, tripped⟩ | ⟨-, moved⟩ := s.beginMotion_cases f
  · have moved : ((s.entering f).moveTo (s.entering f).evaluated).handActive = false :=
      (State.inputActive_congr (by simp) (by simp) .hand).trans hand'
    obtain ⟨node, -⟩ := State.tripRequest_of_serving (cause := .safe)
      (s := ((s.entering f).moveTo (s.entering f).evaluated).raise .safety) (by simpa using serving) moved
    rw [tripped, State.safeRequest, node] at manual
    cases manual
  · rw [moved, State.moveTo_ctrl] at manual
    exact State.evaluated_ne_manual hand' manual

/-- Strap fault, and TRIPPED with HAND inactive, are left as they are by the first evaluation (R44, R47). -/
theorem State.beginMotion_of_stuck {s : State} (f : Frame)
    (h : s.ctrl.node = .standby true ∨ (s.ctrl.node = .tripped ∧ s.handActive = false)) :
    s.beginMotion f = s.withMode f := by
  have entering : s.entering f = s.withMode f :=
    State.entering_of_not_plain (by obtain h | ⟨h, -⟩ := h <;> simp [h]) f
  have stays : (s.withMode f).evaluated = s.ctrl.node := by
    obtain h | ⟨h, hand⟩ := h
    · simp [State.evaluated, State.withMode, h]
    · have hand' : (s.withMode f).handActive = false := hand
      simp [State.evaluated, hand', h, show (s.withMode f).ctrl.node = .tripped from h]
  have self : (s.withMode f).moveTo s.ctrl.node = s.withMode f := (s.withMode f).moveTo_self
  obtain ⟨serving, -⟩ | ⟨-, moved⟩ := s.beginMotion_cases f
  · rw [entering, stays] at serving
    obtain h | ⟨h, -⟩ := h <;> simp [h, NodeState.serving] at serving
  · rw [moved, entering, stays, self]

/-- A node that is not in strap fault and serves or comes to serve: the states of the table (R45, R46). -/
def State.CanServe (s : State) : Prop := NodeState.serving s.ctrl.node = true ∨ s.ctrl.node = .standby false

theorem State.entering_serving {s : State} (h : s.CanServe) (f : Frame) :
    NodeState.serving (s.entering f).ctrl.node = true := by
  rw [State.entering_node]
  obtain h | h := h
  · rwa [if_neg fun plain => by simp [plain, NodeState.serving] at h]
  · rw [if_pos h]
    rfl

theorem State.entering_evaluated {s : State} (h : s.CanServe) (f : Frame) :
    (s.entering f).evaluated = (s.withMode f).tableState := by
  have table : (s.entering f).tableState = (s.withMode f).tableState := by
    rw [State.entering_eq]
    rfl
  rw [← table, ← State.servingState_eq_tableState]
  obtain h | h | h := (NodeState.serving_iff _).1 (State.entering_serving h f) <;> simp only [State.evaluated, h]

/-- The first evaluation of such a node with HAND inactive: to the state of the table, and on to a SAFE trip with SAFE
inactive (R45, R46, R55). -/
theorem State.beginMotion_of_canServe {s : State} (h : s.CanServe) (f : Frame) (hand : s.handActive = false) :
    s.beginMotion f = if s.safeActive = true then (s.entering f).moveTo (s.withMode f).tableState
      else ((s.entering f).moveTo (s.withMode f).tableState).safeRequest := by
  have serving : NodeState.serving (s.withMode f).tableState = true := State.tableState_serving (s := s.withMode f) hand
  have evaluated := State.entering_evaluated h f
  obtain ⟨-, safe, tripped⟩ | ⟨not, moved⟩ := s.beginMotion_cases f
  · rw [tripped, evaluated, if_neg (by simp [safe])]
  · rw [evaluated, serving] at not
    rw [moved, evaluated, if_pos (not.resolve_left (by simp))]

/-- With SAFE inactive it is TRIPPED by SAFE, SAFETY raised (R46, R55). -/
theorem State.beginMotion_of_unsafe {s : State} (h : s.CanServe) (f : Frame) (hand : s.handActive = false)
    (safe : s.safeActive = false) : (s.beginMotion f).ctrl.node = .tripped
      ∧ (s.beginMotion f).ctrl.trip = some { cause := .safe, seq := s.line.lastOut, extra := 0 }
      ∧ hasEvent (s.beginMotion f).events.flags .safety = true := by
  have serving : NodeState.serving (s.withMode f).tableState = true := State.tableState_serving (s := s.withMode f) hand
  have moved : ((s.entering f).moveTo (s.withMode f).tableState).handActive = false :=
    ((State.inputActive_congr (by simp) (by simp) .hand).trans (s.entering_inputActive f .hand)).trans hand
  have line : ((s.entering f).moveTo (s.withMode f).tableState).line = s.line := by
    rw [State.moveTo_line, State.entering_eq]
    rfl
  obtain ⟨node, trip⟩ := State.tripRequest_of_serving (cause := .safe)
    (s := ((s.entering f).moveTo (s.withMode f).tableState).raise .safety) (by simpa using serving) moved
  rw [State.beginMotion_of_canServe h f hand, if_neg (by simp [safe])]
  refine ⟨node, trip.trans ?_, (State.tripRequest_onlyRaises _ _).2.2 .safety (State.hasEvent_raise_self _ _)⟩
  rw [State.newTrip, State.raise_line, line]

/-! ## From the first evaluation to the second (R44, R54) -/

theorem State.computed_ctrl (s : State) (f : Frame) : (s.computed f).ctrl = (s.beginMotion f).ctrl := by
  simp [State.computed, State.computing]

theorem State.computed_drive (s : State) (f : Frame) : (s.computed f).drive = (s.beginMotion f).drive := by
  simp [State.computed, State.computing]

theorem State.computed_line (s : State) (f : Frame) : (s.computed f).line = s.line := by
  simp [State.computed, State.computing]

theorem State.computed_params (s : State) (f : Frame) : (s.computed f).params = s.params := by
  simp [State.computed, State.computing]

theorem State.computed_handActive (s : State) (f : Frame) : (s.computed f).handActive = s.handActive :=
  State.inputActive_congr (s.computed_params f) (by simp [State.computed, State.computing]) .hand

theorem State.beginMotion_records (s : State) (f : Frame) :
    (s.beginMotion f).ctrl.machineRun = frameMachineRun f ∧ (s.beginMotion f).ctrl.holds = s.ctrl.holds := by
  refine ⟨?_, by rw [(s.beginMotion_reacts f).holds, State.woken_holds]⟩
  rw [State.beginMotion, State.firstEvaluate_machineRun]
  rfl

theorem State.computed_tableState (s : State) (f : Frame) : (s.computed f).tableState = (s.withMode f).tableState := by
  obtain ⟨mode, holds⟩ := s.beginMotion_records f
  exact State.tableState_congr (s.computed_params f) (by simp [State.computed, State.computing, State.withMode])
    (by simp [State.computed, State.computing, State.withMode]) (by rw [s.computed_ctrl, mode]; rfl)
    (by rw [s.computed_ctrl, holds]; rfl)

/-- The state that the second evaluation of stage 4 leaves (R64). -/
def State.evaluatedTwice (s : State) (f : Frame) : State := (s.requested f).evaluate

theorem State.stageMotion_ctrl (s : State) (f : Frame) : (s.stageMotion f).ctrl = (s.evaluatedTwice f).ctrl := by
  rw [State.stageMotion_eq, State.handDemandOver_ctrl, State.settleContribution_ctrl]
  rfl

/-- With no request a node left serving, HAND inactive, goes where the table says (R45). -/
theorem State.evaluatedTwice_of_no_request {s : State} {f : Frame}
    (serving : NodeState.serving (s.beginMotion f).ctrl.node = true) (none : s.tripRequests f = []) :
    s.evaluatedTwice f = (s.computed f).moveTo (s.withMode f).tableState := by
  have requested : s.requested f = s.computed f := by rw [s.requested_eq, none]; rfl
  rw [State.evaluatedTwice, requested, State.evaluate_of_serving (by rwa [s.computed_ctrl]), s.computed_tableState]

/-- With a request it trips, and no evaluation turns it (R44, R52 to R54). -/
theorem State.evaluatedTwice_of_request {s : State} {f : Frame} {cause : TripCause} {rest : List TripCause}
    (serving : NodeState.serving (s.beginMotion f).ctrl.node = true) (hand : s.handActive = false)
    (requests : s.tripRequests f = cause :: rest) :
    s.evaluatedTwice f = ((s.computed f).tripRequest cause).withTrip
      (some { cause := cause, seq := s.line.lastOut, extra := rest.length }) := by
  have serving' : NodeState.serving (s.computed f).ctrl.node = true := by rwa [s.computed_ctrl]
  have hand' : (s.computed f).handActive = false := (s.computed_handActive f).trans hand
  have few : rest.length ≤ 255 := by
    have := s.tripRequests_length f
    rw [requests, List.length_cons] at this
    omega
  have requested := State.requestAll_of_serving serving' hand' cause few
  obtain ⟨node, -⟩ := State.tripRequest_of_serving (cause := cause) serving' hand'
  rw [State.evaluatedTwice, s.requested_eq, requests, requested, s.computed_line]
  refine State.evaluate_of_tripped node ?_
  exact (State.inputActive_congr (by simp) (by simp) .hand).trans hand'

/-- In TRIPPED with HAND inactive every request counts and the node stays (R44, R53). -/
theorem State.evaluatedTwice_of_tripped {s : State} {f : Frame} {r : TripRecord}
    (node : (s.beginMotion f).ctrl.node = .tripped) (trip : (s.beginMotion f).ctrl.trip = some r)
    (extra : r.extra ≤ 255) : s.evaluatedTwice f = ((s.computed f).withTrip
      (some { r with extra := min 255 (r.extra + (s.tripRequests f).length) })).evaluate := by
  rw [State.evaluatedTwice, s.requested_eq, State.requestAll_of_tripped (by rwa [s.computed_ctrl])
    (by rwa [s.computed_ctrl]) extra]

/-- With HAND inactive such a node stays where it is. -/
theorem State.evaluatedTwice_of_tripped_stays {s : State} {f : Frame} {r : TripRecord}
    (node : (s.beginMotion f).ctrl.node = .tripped) (trip : (s.beginMotion f).ctrl.trip = some r)
    (extra : r.extra ≤ 255) (hand : s.handActive = false) : s.evaluatedTwice f = (s.computed f).withTrip
      (some { r with extra := min 255 (r.extra + (s.tripRequests f).length) }) := by
  rw [State.evaluatedTwice_of_tripped node trip extra]
  exact State.evaluate_of_tripped (s := (s.computed f).withTrip _) (by rwa [← s.computed_ctrl] at node)
    ((s.computed_handActive f).trans hand)

/-- In LOCAL and in strap fault no request is taken (R51). -/
theorem State.evaluatedTwice_of_passed {s : State} {f : Frame}
    (node : (s.beginMotion f).ctrl.node = .manual ∨ (s.beginMotion f).ctrl.node = .standby true) :
    s.evaluatedTwice f = s.computed f := by
  have requested : s.requested f = s.computed f := by
    rw [s.requested_eq]
    refine State.requestAll_of_passed fun cause hc => ?_
    obtain node | node := node
    · exact State.tripRequest_of_manual_passed (by rwa [s.computed_ctrl]) (State.tripRequests_not_local hc)
    · exact State.tripRequest_of_standby (by rwa [s.computed_ctrl]) cause
  rw [State.evaluatedTwice, requested]
  obtain node | node := node
  · have node' : (s.computed f).ctrl.node = .manual := by rwa [s.computed_ctrl]
    have manual : (s.computed f).evaluated = .manual := State.evaluated_of_hand
      ((s.computed_handActive f).trans (State.hand_of_beginMotion_manual node)) (by simp [node'])
    rw [State.evaluate, manual, ← node', State.moveTo_self, node']
    rfl
  · exact State.evaluate_of_standby _ true (by rwa [s.computed_ctrl])

/-- Whatever HAND reads, a TRIPPED node keeps its record at an evaluation (R44, R45). -/
theorem State.evaluate_trip_of_tripped {s : State} (node : s.ctrl.node = .tripped) :
    s.evaluate.ctrl.trip = s.ctrl.trip := by
  have resting : NodeState.serving s.evaluated = false := by
    cases hand : s.handActive <;> simp [State.evaluated, node, hand, NodeState.serving]
  simp [State.evaluate, resting]

/-! ## The drive of a RUN node through stage 4 (R48, R132) -/

/-- A drive that stands still is left so by every move but one into LOCAL. -/
theorem State.moveTo_drive_of_still {s : State} {n : NodeState}
    (still : s.drive.st = .off ∨ s.drive.st = .stopping ∨ s.drive.st = .faulted) (manual : n ≠ .manual) :
    (s.moveTo n).drive = s.drive := by
  have stop (a : State) (ha : a.drive = s.drive) (p : Prop) [Decidable p] :
      (if p then a.driveStop else a).drive = s.drive := by
    rw [State.driveStop_of_still (by rwa [ha]), ite_self, ha]
  unfold State.moveTo
  simp only [if_neg manual]
  split
  · rfl
  · exact stop _ (by split <;> simp) _

/-- The drive of a RUN node `s` at `t`: as it was while `t` is RUN, and stopped once it is not. -/
def State.StoppedBy (s t : State) : Prop :=
  (t.ctrl.node = .run ∧ t.drive = s.drive)
    ∨ (t.ctrl.node ≠ .run ∧ DriveBlock.StoppedTo s.drive t.drive s.params.stopTime)

/-- A move out of RUN stops the drive, and no move after it starts it. -/
theorem State.StoppedBy.moveTo {s t : State} (h : s.StoppedBy t) (params : t.params = s.params) {n : NodeState}
    (manual : n ≠ .manual) (run : n = .run → t.ctrl.node = .run) : s.StoppedBy (t.moveTo n) := by
  obtain ⟨node, drive⟩ | ⟨node, stopped⟩ := h
  · by_cases stays : n = .run
    · rw [stays, ← node, State.moveTo_self]
      exact .inl ⟨node, drive⟩
    · refine .inr ⟨by simpa using stays, ?_⟩
      rw [← drive, ← params]
      exact State.moveTo_stops_drive node stays manual
  · refine .inr ⟨by simpa using mt run node, ?_⟩
    rwa [State.moveTo_drive_of_still stopped.still manual]

theorem State.StoppedBy.of_same {s t u : State} (h : s.StoppedBy t) (node : u.ctrl.node = t.ctrl.node)
    (drive : u.drive = t.drive) : s.StoppedBy u := by
  rwa [State.StoppedBy, node, drive]

theorem State.StoppedBy.tripRequest {s t : State} (h : s.StoppedBy t) (params : t.params = s.params)
    (serving : NodeState.serving t.ctrl.node = true) (hand : t.handActive = false) (cause : TripCause) :
    s.StoppedBy (t.tripRequest cause) := by
  rw [State.tripRequest_eq_of_serving serving hand]
  exact State.StoppedBy.moveTo (t := t.withTrip (some (t.newTrip cause))) h params (by simp) (by simp)

/-- Where the first evaluation and the requests leave the drive of a RUN node with HAND inactive. -/
theorem State.evaluatedTwice_stoppedBy {s : State} (f : Frame) (run : s.ctrl.node = .run)
    (hand : s.handActive = false) : s.StoppedBy (s.evaluatedTwice f) := by
  have canServe : s.CanServe := .inl (by simp [run, NodeState.serving])
  have begun := State.beginMotion_of_canServe canServe f hand
  have serving : NodeState.serving (s.withMode f).tableState = true :=
    State.tableState_serving (s := s.withMode f) hand
  rw [State.entering_of_not_plain (by simp [run]) f] at begun
  have moved : s.StoppedBy ((s.withMode f).moveTo (s.withMode f).tableState) :=
    State.StoppedBy.moveTo (t := s.withMode f) (.inl ⟨run, rfl⟩) rfl
      (State.tableState_ne_manual (s := s.withMode f) hand) fun _ => run
  cases safe : s.safeActive
  · have hand' : ((s.withMode f).moveTo (s.withMode f).tableState).handActive = false :=
      (State.inputActive_congr (s := s) (by simp [State.withMode]) (by simp [State.withMode]) .hand).trans hand
    rw [if_neg (by simp [safe])] at begun
    have tripped : s.StoppedBy (s.beginMotion f) := by
      rw [begun, State.safeRequest]
      exact State.StoppedBy.tripRequest
        (t := ((s.withMode f).moveTo (s.withMode f).tableState).raise .safety)
        (moved.of_same (by simp) (by simp)) (by simp [State.withMode]) (by simpa using serving) hand' .safe
    obtain ⟨node, trip, -⟩ := State.beginMotion_of_unsafe canServe f hand safe
    rw [State.evaluatedTwice_of_tripped_stays node trip (Nat.zero_le _) hand]
    exact tripped.of_same (by rw [← s.computed_ctrl]; rfl) (s.computed_drive f)
  · rw [if_pos safe] at begun
    have computed : s.StoppedBy (s.computed f) :=
      moved.of_same (by rw [s.computed_ctrl, begun]) (by rw [s.computed_drive, begun])
    have node : (s.computed f).ctrl.node = (s.withMode f).tableState := by rw [s.computed_ctrl, begun]; simp
    have serving' : NodeState.serving (s.beginMotion f).ctrl.node = true := by rw [begun]; simpa using serving
    cases requests : s.tripRequests f with
    | nil =>
      rw [State.evaluatedTwice_of_no_request serving' requests, ← node, State.moveTo_self]
      exact computed
    | cons cause rest =>
      rw [State.evaluatedTwice_of_request serving' hand requests]
      exact (computed.tripRequest (s.computed_params f) (by rwa [node])
        ((s.computed_handActive f).trans hand) cause).of_same rfl rfl

/-- Outside RUN the hand-over writes the direction record alone (R122). -/
theorem State.handDemandOver_drive_of_not_run {s : State} (h : s.ctrl.node ≠ .run) (f : Frame) (candidate : Nat) :
    (s.handDemandOver f candidate).drive = { s.drive with dirRecord := frameDirection f } := by
  simp [State.handDemandOver, State.changeDirection, State.actOnDemand, h]

theorem DriveBlock.StoppedTo.withDirRecord {x y : DriveBlock} {stopTime : Nat} (h : DriveBlock.StoppedTo x y stopTime)
    (dir : Direction) :
    DriveBlock.StoppedTo { x with dirRecord := dir } { y with dirRecord := dir } stopTime := by
  obtain ⟨halted, stopped, rested, stays⟩ := h
  refine ⟨fun on time => ?_, fun on time => ?_, fun resting => ?_, fun still => ?_⟩
  · rw [halted on time]
  · rw [stopped on time]
    rfl
  · rw [rested resting]
    rfl
  · rw [stays still]

/-- A RUN node that stage 4 takes out of RUN, HAND inactive, has its drive stopped (R132). -/
theorem State.stageMotion_stoppedTo {s : State} {f : Frame} (run : s.ctrl.node = .run) (hand : s.handActive = false)
    (leaves : (s.stageMotion f).ctrl.node ≠ .run) :
    DriveBlock.StoppedTo { s.drive with dirRecord := frameDirection f } (s.stageMotion f).drive s.params.stopTime := by
  have leaves' : (s.evaluatedTwice f).ctrl.node ≠ .run := by rwa [← s.stageMotion_ctrl]
  obtain ⟨stays, -⟩ | ⟨-, stopped⟩ := State.evaluatedTwice_stoppedBy f run hand
  · exact absurd stays leaves'
  · rw [s.stageMotion_eq, ← State.evaluatedTwice, State.handDemandOver_drive_of_not_run (by simpa using leaves')]
    exact stopped.withDirRecord _

/-! ## The obligations -/

theorem headerFieldBad_eq (f : Frame) :
    headerFieldBad f = decide (6000 < frameRate f ∨ 36000 ≤ framePivot f ∨ 1000 < frameCeiling f) := by
  rw [Bool.eq_iff_iff]
  simp [headerFieldBad, pivotValid, or_assoc]

/-- The node and the record after stage 4 where the first evaluation leaves it serving, by the requests (R52 to R54). -/
theorem State.stageMotion_of_serving {s : State} {f : Frame}
    (serving : NodeState.serving (s.beginMotion f).ctrl.node = true) (hand : s.handActive = false) :
    (s.tripRequests f = [] → (s.stageMotion f).ctrl.trip = (s.beginMotion f).ctrl.trip
        ∧ (s.stageMotion f).ctrl.node = (s.withMode f).tableState)
      ∧ (∀ cause rest, s.tripRequests f = cause :: rest → (s.stageMotion f).ctrl.node = .tripped
        ∧ (s.stageMotion f).ctrl.trip = some { cause := cause, seq := s.line.lastOut, extra := rest.length }) := by
  rw [s.stageMotion_ctrl]
  refine ⟨fun none => ?_, fun cause rest requests => ?_⟩
  · rw [State.evaluatedTwice_of_no_request serving none, State.moveTo_ctrl, s.computed_ctrl]
    exact ⟨rfl, rfl⟩
  · obtain ⟨node, -⟩ := State.tripRequest_of_serving (s := s.computed f) (cause := cause) (by rwa [s.computed_ctrl])
      ((s.computed_handActive f).trans hand)
    rw [State.evaluatedTwice_of_request serving hand requests]
    exact ⟨node, rfl⟩

/-- In TRIPPED, however the node came there, the requests count (R53). -/
theorem State.stageMotion_of_tripped {s : State} {f : Frame} {r : TripRecord}
    (node : (s.beginMotion f).ctrl.node = .tripped) (trip : (s.beginMotion f).ctrl.trip = some r)
    (extra : r.extra ≤ 255) : (s.stageMotion f).ctrl.trip =
      some { r with extra := min 255 (r.extra + (s.tripRequests f).length) } := by
  rw [s.stageMotion_ctrl, State.evaluatedTwice_of_tripped node trip extra, State.evaluate_trip_of_tripped
    (s := (s.computed f).withTrip _) (by rwa [← s.computed_ctrl] at node)]
  rfl

theorem State.stageMotion_of_passed {s : State} {f : Frame}
    (node : (s.beginMotion f).ctrl.node = .manual ∨ (s.beginMotion f).ctrl.node = .standby true) :
    (s.stageMotion f).ctrl = (s.beginMotion f).ctrl := by
  rw [s.stageMotion_ctrl, State.evaluatedTwice_of_passed node, s.computed_ctrl]

/-- A TRIPPED node with HAND inactive stays TRIPPED (R44, R53). -/
theorem State.stageMotion_node_of_tripped {s : State} (f : Frame) (tripped : s.ctrl.node = .tripped)
    (hand : s.handActive = false) : (s.stageMotion f).ctrl.node = .tripped := by
  have begun := State.beginMotion_of_stuck f (.inr ⟨tripped, hand⟩)
  have requested : (s.requested f).ctrl.node = .tripped := by
    rw [s.requested_eq]
    exact State.requestAll_node_of_tripped (by rw [s.computed_ctrl, begun]; exact tripped) _
  have hand' : (s.requested f).handActive = false :=
    (State.inputActive_congr (by simp [State.requested, State.computing])
      (by simp [State.requested, State.computing]) .hand).trans hand
  rw [s.stageMotion_ctrl, State.evaluatedTwice, State.evaluate_of_tripped requested hand', requested]

/-- What the first evaluation raised stands after stage 4 (R181). -/
theorem State.beginMotion_onlyRaises_stageMotion (s : State) (f : Frame) :
    State.OnlyRaises (s.computing f) (s.stageMotion f) ∧ State.OnlyRaises (s.beginMotion f) (s.stageMotion f) := by
  have rest : State.OnlyRaises (s.computing f) (s.stageMotion f) :=
    (State.raiseMotion_reacts _ _).raises.trans (s.computed_addsShort f).raises
  exact ⟨rest, (State.inputStep_reacts _ f).raises.trans rest⟩

/-- A SAFE trip at the first evaluation, the requests of the computation counted (R46, R53, R55). -/
theorem State.stageMotion_of_unsafe {s : State} (h : s.CanServe) (f : Frame) (hand : s.handActive = false)
    (safe : s.safeActive = false) : (s.stageMotion f).ctrl.node = .tripped
      ∧ hasEvent (s.stageMotion f).events.flags .safety = true
      ∧ (s.stageMotion f).ctrl.trip =
        some { cause := .safe, seq := s.line.lastOut, extra := (s.tripRequests f).length } := by
  obtain ⟨node, trip, event⟩ := State.beginMotion_of_unsafe h f hand safe
  obtain ⟨-, -, kept⟩ := (s.beginMotion_onlyRaises_stageMotion f).2
  have few : (s.tripRequests f).length ≤ 255 := by
    have := s.tripRequests_length f
    omega
  refine ⟨?_, kept _ event, ?_⟩
  · rw [s.stageMotion_ctrl, State.evaluatedTwice_of_tripped_stays node trip (Nat.zero_le _) hand]
    exact (congrArg CtrlBlock.node (s.computed_ctrl f)).trans node
  · rw [State.stageMotion_of_tripped node trip (Nat.zero_le _), Nat.zero_add, Nat.min_eq_right few]

/-- Settles O28: the conditions by what a computation raises, the node by the two evaluations and the requests between. -/
theorem conditionsTripInOrder : Obligations.ConditionsTripInOrder := by
  refine ⟨headerFieldBad_eq, fun f s => ?_⟩
  obtain ⟨causes, sticky, short⟩ := s.stageMotion_conditions f
  rw [s.angleHeld_eq] at causes sticky
  have canServe (h : s.ctrl.node = .idle ∨ s.ctrl.node = .run ∨ s.ctrl.node = .hold ∨ s.ctrl.node = .standby false) :
      s.CanServe := by
    obtain h | h | h | h := h <;> simp [State.CanServe, h, NodeState.serving]
  refine ⟨causes, sticky, short, fun code => ?_, fun node hand => ?_, fun r node trip extra => ?_, fun node => ?_,
    fun node hand => ⟨fun safe none => ?_, ?_⟩, fun run hand leaves => ?_, fun tripped hand => ?_, fun strap => ?_,
    fun strap hand => ?_⟩
  · exact (s.computed_addsShort f).noted (s.computed_noted f) fun none => code ((Conditions.code_eq_zero_iff _).2 none)
  · obtain ⟨quiet, trips⟩ := State.stageMotion_of_serving ((NodeState.serving_iff _).2 node) hand
    refine ⟨fun none => ⟨(quiet none).1, ?_⟩, trips⟩
    rw [(quiet none).2, ← State.servingState_eq_tableState]
    exact State.servingState_ne_tripped _
  · exact State.stageMotion_of_tripped node trip extra
  · rw [State.stageMotion_of_passed node]
  · have serving := State.beginMotion_serving f (canServe node) hand safe
    exact ((State.stageMotion_of_serving serving hand).1 none).2
  · exact State.stageMotion_of_unsafe (canServe node) f hand
  · exact ⟨State.stageMotion_d_of_not_run leaves, State.stageMotion_c_of_not_run leaves,
      State.stageMotion_stoppedTo run hand leaves⟩
  · exact State.stageMotion_node_of_tripped f tripped hand
  · exact (State.stageMotion_of_strapFault f strap).1
  · have manual := State.beginMotion_of_hand f strap hand
    rw [State.stageMotion_of_passed (.inl manual), manual]

/-- The angle of a valid reading is the one a MID node takes (R95). -/
theorem State.freshAngle_of_reading {s : State} {r : Reading} (valid : s.joint.valid = true)
    (reading : s.joint.reading = some r) : s.freshAngle = some (jointAngle s.params r) := by
  simp [State.freshAngle, valid, reading]

/-- What a computation does with a valid angle at SAFETY_LIMIT: it is reported, ALIGN_TRIP raised and the trip requested
(R95, R97). -/
theorem State.takeJoint_of_limit {s : State} {theta : Int} (mid : s.isEnd = false) (fresh : s.freshAngle = some theta)
    (limit : s.params.safetyLimit ≤ theta.natAbs) : s.takeJoint.demand.theta = theta
      ∧ hasEvent s.takeJoint.events.flags .alignTrip = true ∧ s.captureRequest = some .align := by
  refine ⟨by simp [State.takeJoint, mid, fresh, State.takeValidAngle], ?_,
    by simp [State.captureRequest, mid, fresh, limit]⟩
  simp [State.takeJoint, mid, fresh, State.takeValidAngle, limit, State.hasEvent_raiseIf_self]

/-- Settles O32: the first evaluation leaves the node serving, and ALIGN is the first of the requests. -/
theorem alignmentTripStopsNode : Obligations.AlignmentTripStopsNode := by
  intro f s r run hand safe _ _ _ _ _ role valid reading limit
  have mid : s.isEnd = false := State.isEnd_of_mid role
  have fresh := State.freshAngle_of_reading valid reading
  have serving := State.beginMotion_serving f (.inl (by simp [run, NodeState.serving])) hand safe
  obtain ⟨-, -, capture⟩ := State.takeJoint_of_limit mid fresh limit
  have requests : ∃ rest, s.tripRequests f = .align :: rest := ⟨_, by rw [State.tripRequests, capture]; rfl⟩
  obtain ⟨rest, requests⟩ := requests
  obtain ⟨node, trip⟩ := (State.stageMotion_of_serving serving hand).2 _ _ requests
  have notRun : (s.stageMotion f).ctrl.node ≠ .run := by simp [node]
  have params : ((s.beginMotion f).fielded f).params = s.params := by simp [State.fielded]
  have fresh' : ((s.beginMotion f).fielded f).freshAngle = some (jointAngle s.params r) :=
    (State.freshAngle_congr (by simp [State.fielded]) params).trans fresh
  obtain ⟨theta, event, -⟩ := State.takeJoint_of_limit (s := (s.beginMotion f).fielded f)
    (by simpa [State.fielded] using mid) fresh' (by rwa [params])
  obtain ⟨-, -, kept⟩ := (s.beginMotion_onlyRaises_stageMotion f).1
  exact ⟨node, ⟨_, trip⟩, State.stageMotion_d_of_not_run notRun, State.stageMotion_c_of_not_run notRun,
    (s.stageMotion_keepsAngle f).theta.trans theta, (State.stageMotion_stoppedTo run hand notRun).energizes,
    kept _ event⟩

end Sys2Proof.Machine
end

section
/-! SUPPORT. What a change of an input does at its reader (R55, R61, R63, R125, R130, R136, R137, R177, R179): the jog, the
entry into LOCAL and the way out of it, SAFE, DRDY and AUX; and the obligation about INPUT_CHANGE. -/

namespace Sys2Proof.Machine

/-! ## The jog lockout: no concern of a start or a stop (R137) -/

@[simp] theorem State.enterRunning_lockout (s : State) : s.enterRunning.drive.lockout = s.drive.lockout := rfl

@[simp] theorem State.takeReady_lockout (s : State) : s.takeReady.drive.lockout = s.drive.lockout := by
  unfold State.takeReady
  split <;> simp

@[simp] theorem State.startIfDue_lockout (s : State) : s.startIfDue.drive.lockout = s.drive.lockout := by
  unfold State.startIfDue State.startDutyPeriod State.startRate
  simp only
  (repeat' split) <;> simp

@[simp] theorem State.startJogIfDue_lockout (s : State) : s.startJogIfDue.drive.lockout = s.drive.lockout := by
  unfold State.startJogIfDue
  (repeat' split) <;> simp

@[simp] theorem State.driveStop_lockout (s : State) : s.driveStop.drive.lockout = s.drive.lockout := by
  have stop : s.enterStopping.drive.lockout = s.drive.lockout := by
    unfold State.enterStopping State.arriveOff
    split <;> simp
  unfold State.driveStop
  split <;> simp [stop]

@[simp] theorem State.endJog_lockout (s : State) : s.endJog.drive.lockout = s.drive.lockout := by
  rw [State.endJog_eq]
  split <;> simp

/-! ## A jog (R136, R137) -/

theorem State.withDrive_frame (s : State) (x : DriveBlock) : State.SameOutside [.drive] s (s.withDrive x) := by
  intro b hb
  cases b
  case drive => simp at hb
  all_goals rfl

/-- `t` is `s` after a jog in this direction has begun: STARTING, or RUNNING with DRDY active (R125, R136). -/
structure State.JogBegun (s : State) (dir : Direction) (t : State) : Prop where
  frame : State.SameOutside [.drive] s t
  dir : t.drive.dir = dir
  jog : t.drive.jog = true
  period : t.drive.period = none
  starting : s.drdyActive = false → t.drive.st = .starting ∧ t.drive.rateRef = 0
    ∧ t.drive.phase = some { length := 100 * s.params.startTimeout, left := 100 * s.params.startTimeout }
  running : s.drdyActive = true → t.drive.st = .running ∧ t.drive.phase = none
    ∧ t.drive.rateRef = if s.params.driveMode = .rate then s.params.jogDemand else 0

theorem State.startJogIfDue_begins {s : State} {dir : Direction} (node : s.ctrl.node = .manual)
    (off : s.drive.st = .off) (free : s.drive.lockout = false) (selected : s.jogSelection = some dir) :
    s.JogBegun dir s.startJogIfDue := by
  have begun : s.startJogIfDue =
      (s.withDrive { s.drive with dir := dir, jog := true, period := none }).beginStarting.takeReady := by
    simp [State.startJogIfDue, node, off, free, selected]
  have drdy : (s.withDrive { s.drive with dir := dir, jog := true, period := none }).beginStarting.drdyActive =
      s.drdyActive := State.drdyActive_congr (by simp) (by simp)
  have frame := s.startJogIfDue_frame
  rw [begun] at frame ⊢
  obtain ⟨-, ready, e⟩ | ⟨waits, e⟩ :=
      (s.withDrive { s.drive with dir := dir, jog := true, period := none }).beginStarting.takeReady_cases <;>
    rw [e] at frame ⊢
  · rw [drdy] at ready
    refine ⟨frame, rfl, rfl, rfl, fun waits => by simp [ready] at waits, fun _ => ⟨rfl, rfl, ?_⟩⟩
    cases mode : s.params.driveMode <;> simp [State.enterRunning, mode]
  · have waits := waits.resolve_left (by simp)
    rw [drdy] at waits
    exact ⟨frame, rfl, rfl, rfl, fun _ => ⟨rfl, rfl, rfl⟩, fun ready => by simp [waits] at ready⟩

theorem State.JogBegun.not_off {s t : State} {dir : Direction} (h : s.JogBegun dir t) : t.drive.st ≠ .off := by
  cases drdy : s.drdyActive
  · simp [(h.starting drdy).1]
  · simp [(h.running drdy).1]

/-- A jog that began after a stop of the drive began at the same readings (R132, R136). -/
theorem State.JogBegun.of_frame {s t u : State} {dir : Direction} (h : t.JogBegun dir u)
    (frame : State.SameOutside [.drive] s t) : s.JogBegun dir u := by
  have table : t.table = s.table := frame .table (by decide)
  have drdy : t.drdyActive = s.drdyActive := State.drdyActive_congr table (frame .inputs (by decide))
  refine ⟨frame.trans h.frame, h.dir, h.jog, h.period, ?_, ?_⟩
  · rw [← drdy, ← State.params_congr table]
    exact h.starting
  · rw [← drdy, ← State.params_congr table]
    exact h.running

theorem State.startJogIfDue_of_not_off {s : State} (h : s.drive.st ≠ .off) : s.startJogIfDue = s := by
  simp [State.startJogIfDue, h]

theorem State.startJogIfDue_of_unselected {s : State} (h : s.jogSelection = none) : s.startJogIfDue = s := by
  simp [State.startJogIfDue, h]

theorem State.jogSelection_congr {s t : State} (table : t.table = s.table) (inputs : t.inputs = s.inputs) :
    t.jogSelection = s.jogSelection := by
  simp only [State.jogSelection, State.inputActive_congr (State.params_congr table) inputs]

/-- A jog input at OFF in LOCAL, where no lockout holds or the input clears it (R136, R137). -/
theorem State.jogChange_of_off {s : State} {nowActive : Bool} (node : s.ctrl.node = .manual) (off : s.drive.st = .off)
    (free : s.drive.lockout = false ∨ nowActive = true) :
    s.jogChange nowActive = (s.withDrive { s.drive with lockout := false }).startJogIfDue := by
  have unlocked : (if nowActive = true ∧ s.drive.st = .off then s.withDrive { s.drive with lockout := false } else s) =
      s.withDrive { s.drive with lockout := false } := by
    split
    · rfl
    · next h =>
      have free : s.drive.lockout = false := free.resolve_right fun active => h ⟨active, off⟩
      rw [← free]
      rfl
  unfold State.jogChange
  simp only [unlocked]
  simp [node, off, DriveState.energizes]

/-- A jog whose direction is no longer selected ends (R137). -/
theorem State.jogChange_of_end {s : State} (nowActive : Bool) (node : s.ctrl.node = .manual)
    (jog : s.drive.jog = true) (on : s.drive.st = .starting ∨ s.drive.st = .running)
    (unselected : s.jogSelection ≠ some s.drive.dir) (stopTime : s.params.stopTime ≠ 0) :
    s.jogChange nowActive = s.haltMotor := by
  have notOff : s.drive.st ≠ .off := by obtain on | on := on <;> simp [on]
  have energized : DriveState.energizes s.drive.st = true := by obtain on | on := on <;> rw [on] <;> rfl
  simp [State.jogChange, notOff, node, energized, unselected, State.endJog, jog, State.enterStopping, stopTime]

/-- The lockout is cleared by a jog input that becomes active at OFF, and is else left (R137). -/
theorem State.jogChange_lockout (s : State) (nowActive : Bool) :
    (s.jogChange nowActive).drive.lockout = (s.drive.lockout && !(nowActive && decide (s.drive.st = .off))) := by
  have acts (a : State) : (if a.ctrl.node = .manual then
      if DriveState.energizes a.drive.st = true ∧ a.jogSelection ≠ some a.drive.dir then a.endJog
      else a.startJogIfDue
    else a).drive.lockout = a.drive.lockout := by
    (repeat' split) <;> simp
  unfold State.jogChange
  simp only [acts]
  split
  · next h => simp [h]
  · next h =>
    rw [not_and_or] at h
    obtain h | h := h <;> simp [h]

/-! ## The entry into LOCAL (R61, R132, R136) -/

/-- `s` in LOCAL with the entry noted, before its drive acts (R48, R61). -/
def State.enteredLocal (s : State) : State :=
  (if s.ctrl.node = .run then (s.withNode .manual).dropDemand else s.withNode .manual).noteLocalEntry

theorem State.enteredLocal_frame (s : State) :
    State.SameOutside [.ctrl, .demand, .drive, .events] s s.enteredLocal := by
  have entered := (s.withNode_frame .manual).mono (large := [.ctrl, .demand, .drive, .events]) (by decide)
  unfold State.enteredLocal
  split
  · exact (entered.trans ((State.dropDemand_frame _).mono (by decide))).trans ((State.noteLocalEntry_frame _).mono (by decide))
  · exact entered.trans ((State.noteLocalEntry_frame _).mono (by decide))

theorem State.enteredLocal_node (s : State) : s.enteredLocal.ctrl.node = .manual := by
  unfold State.enteredLocal
  split <;> rfl

theorem State.enteredLocal_drive (s : State) : s.enteredLocal.drive = { s.drive with lockout := false } := by
  unfold State.enteredLocal
  split <;> rfl

theorem State.enteredLocal_hasEvent (s : State) : hasEvent s.enteredLocal.events.flags .handEntry = true := by
  have raised (a : State) : hasEvent a.noteLocalEntry.events.flags .handEntry = true := a.hasEvent_raise_self .handEntry
  exact raised _

/-- From RUN the drive is stopped, from any other state it stays, and then a jog that is selected begins. -/
theorem State.moveTo_manual_eq {s : State} (node : s.ctrl.node ≠ .manual) : s.moveTo .manual =
    (if s.ctrl.node = .run then s.enteredLocal.driveStop else s.enteredLocal).startJogIfDue := by
  by_cases run : s.ctrl.node = .run <;> simp [State.moveTo, State.enteredLocal, run, node.symm, node]

theorem State.moveTo_manual_notes {s : State} (node : s.ctrl.node ≠ .manual) :
    hasEvent (s.moveTo .manual).events.flags .handEntry = true ∧ (s.moveTo .manual).drive.lockout = false := by
  have lockout : s.enteredLocal.drive.lockout = false := by rw [s.enteredLocal_drive]
  rw [State.moveTo_manual_eq node, State.startJogIfDue_events, State.startJogIfDue_lockout]
  split
  · exact ⟨s.enteredLocal.driveStop_onlyRaises.2.2 _ s.enteredLocal_hasEvent, by rw [State.driveStop_lockout, lockout]⟩
  · exact ⟨s.enteredLocal_hasEvent, lockout⟩

/-- The drive of a RUN node that enters LOCAL, where no jog begins (R132). -/
theorem State.moveTo_manual_stoppedTo {s : State} (run : s.ctrl.node = .run)
    (noJog : s.jogSelection = none ∨ s.drive.st = .stopping ∨ s.drive.st = .faulted
      ∨ ((s.drive.st = .starting ∨ s.drive.st = .running) ∧ s.params.stopTime ≠ 0)) :
    DriveBlock.StoppedTo { s.drive with lockout := false } (s.moveTo .manual).drive s.params.stopTime := by
  have table : s.enteredLocal.table = s.table := s.enteredLocal_frame .table (by decide)
  have inputs : s.enteredLocal.inputs = s.inputs := s.enteredLocal_frame .inputs (by decide)
  have params := State.params_congr table
  have selection := State.jogSelection_congr table inputs
  have drive := s.enteredLocal_drive
  have notRun : ¬(s.enteredLocal.ctrl.node = .run ∧ 0 < s.enteredLocal.demand.d) := by
    simp [s.enteredLocal_node]
  rw [State.moveTo_manual_eq (by simp [run]), if_pos run, ← drive, ← params]
  obtain unselected | still | still | ⟨on, stopTime⟩ := noJog
  · rw [State.startJogIfDue_of_unselected ((State.jogSelection_congr (by simp) (by simp)).trans
      (selection.trans unselected))]
    exact State.driveStop_stoppedTo_of_no_start (fun _ => notRun) fun _ => .inr (selection.trans unselected)
  · have still' : s.enteredLocal.drive.st = .stopping := by rw [drive]; exact still
    rw [State.driveStop_of_still (.inr (.inl still')), State.startJogIfDue_of_not_off (by simp [still'])]
    exact .of_still _ (.inr (.inl still'))
  · have still' : s.enteredLocal.drive.st = .faulted := by rw [drive]; exact still
    rw [State.driveStop_of_still (.inr (.inr still')), State.startJogIfDue_of_not_off (by simp [still'])]
    exact .of_still _ (.inr (.inr still'))
  · have stopTime' : s.enteredLocal.params.stopTime ≠ 0 := by rwa [params]
    have halted : s.enteredLocal.driveStop = s.enteredLocal.haltMotor :=
      State.driveStop_of_energized (by rw [drive]; exact on) stopTime'
    rw [State.startJogIfDue_of_not_off (by simp [halted])]
    exact State.driveStop_stoppedTo_of_no_start (fun _ => notRun) fun time => absurd time stopTime'

/-- From any other state the entry into LOCAL leaves the drive, where no jog begins (R61). -/
theorem State.moveTo_manual_drive {s : State} (node : s.ctrl.node ≠ .manual) (run : s.ctrl.node ≠ .run)
    (noJog : s.jogSelection = none ∨ s.drive.st ≠ .off) :
    (s.moveTo .manual).drive = { s.drive with lockout := false } := by
  rw [State.moveTo_manual_eq node, if_neg run, ← s.enteredLocal_drive]
  obtain unselected | notOff := noJog
  · rw [State.startJogIfDue_of_unselected ((State.jogSelection_congr (s.enteredLocal_frame .table (by decide))
      (s.enteredLocal_frame .inputs (by decide))).trans unselected)]
  · rw [State.startJogIfDue_of_not_off (by rw [s.enteredLocal_drive]; exact notOff)]

/-- Where the stop of a drive in LOCAL brings it to OFF, a jog that is selected begins (R133, R136). -/
theorem State.driveStop_begins_jog {s : State} {dir : Direction} (node : s.ctrl.node = .manual)
    (free : s.drive.lockout = false) (selected : s.jogSelection = some dir)
    (off : s.drive.st = .off ∨ s.drive.st = .resting
      ∨ ((s.drive.st = .starting ∨ s.drive.st = .running) ∧ s.params.stopTime = 0)) :
    s.JogBegun dir s.driveStop.startJogIfDue := by
  have begins (x : DriveBlock) (hoff : x.st = .off) (hfree : x.lockout = false) :
      s.JogBegun dir (s.withDrive x).startJogIfDue :=
    (State.startJogIfDue_begins (s := s.withDrive x) node hoff hfree selected).of_frame (s.withDrive_frame x)
  obtain off | resting | ⟨on, stopTime⟩ := off
  · rw [State.driveStop_of_still (.inl off)]
    exact begins s.drive off free
  · rw [State.driveStop_of_resting resting]
    exact begins _ rfl free
  · have arrived : s.driveStop = (s.withDrive (DriveBlock.stoppedAt s.drive .off)).startJogIfDue := by
      have stopped : s.driveStop = s.haltMotor.arriveOff := by
        obtain on | on := on <;> simp [State.driveStop, on, State.enterStopping, stopTime]
      rw [stopped, State.arriveOff, State.startIfDue_of_not_due _ (by simp [node]),
        State.takeReady_of_not_starting _ (by simp)]
      rfl
    have begun := begins (DriveBlock.stoppedAt s.drive .off) rfl free
    rw [arrived, State.startJogIfDue_of_not_off begun.not_off]
    exact begun

/-- The jog that begins with the entry into LOCAL (R136). -/
theorem State.moveTo_manual_begins_jog {s : State} {dir : Direction} (node : s.ctrl.node ≠ .manual)
    (selected : s.jogSelection = some dir)
    (off : s.drive.st = .off ∨ (s.ctrl.node = .run ∧ (s.drive.st = .resting
      ∨ ((s.drive.st = .starting ∨ s.drive.st = .running) ∧ s.params.stopTime = 0)))) :
    s.enteredLocal.JogBegun dir (s.moveTo .manual) := by
  have table : s.enteredLocal.table = s.table := s.enteredLocal_frame .table (by decide)
  have selected' : s.enteredLocal.jogSelection = some dir :=
    (State.jogSelection_congr table (s.enteredLocal_frame .inputs (by decide))).trans selected
  have free : s.enteredLocal.drive.lockout = false := by rw [s.enteredLocal_drive]
  have st : s.enteredLocal.drive.st = s.drive.st := by rw [s.enteredLocal_drive]
  rw [State.moveTo_manual_eq node]
  split
  · refine State.driveStop_begins_jog s.enteredLocal_node free selected' ?_
    rw [st, State.params_congr table]
    obtain off | ⟨-, off⟩ := off
    · exact .inl off
    · exact .inr off
  · next run =>
    exact State.startJogIfDue_begins s.enteredLocal_node (st.trans (off.resolve_right fun h => run h.1)) free selected'

/-- HAND takes every node but one in STANDBY to LOCAL (R45). -/
theorem State.evaluate_of_hand {s : State} (hand : s.handActive = true) (standby : ∀ b, s.ctrl.node ≠ .standby b) :
    s.evaluate = s.moveTo .manual := by
  simp [State.evaluate, State.evaluated_of_hand hand standby, NodeState.serving]

/-! ## The way out of LOCAL (R45, R55, R63) -/

theorem State.moveTo_of_manual {s : State} {n : NodeState} (node : s.ctrl.node = .manual) (manual : n ≠ .manual) :
    s.moveTo n = (s.withNode n).driveStop := by
  simp [State.moveTo, node, manual]

/-- Leaving LOCAL stops the drive; at OFF nothing starts but in RUN with a demand (R63, R133). -/
theorem State.moveTo_of_manual_stoppedTo {s : State} {n : NodeState} (node : s.ctrl.node = .manual) (manual : n ≠ .manual)
    (start : s.demand.d = 0 ∨ n ≠ .run ∨ s.params.stopTime ≠ 0) :
    DriveBlock.StoppedTo s.drive (s.moveTo n).drive s.params.stopTime := by
  rw [State.moveTo_of_manual node manual]
  refine State.driveStop_stoppedTo_of_no_start (s := s.withNode n) (fun time => ?_) fun _ => .inl manual
  rintro ⟨run, demand⟩
  obtain zero | other | time' := start
  · exact absurd demand (by simp [zero])
  · exact other run
  · exact time' time

/-- With a trip the release of HAND leads to TRIPPED (R45). -/
theorem State.evaluate_of_release_tripped {s : State} {r : TripRecord} (node : s.ctrl.node = .manual)
    (hand : s.handActive = false) (trip : s.ctrl.trip = some r) : s.evaluate = s.moveTo .tripped := by
  simp [State.evaluate, State.evaluated, node, hand, trip, NodeState.serving]

/-- Without one it leads to the state of the table, and on to a SAFE trip with SAFE inactive (R45, R55). -/
theorem State.evaluate_of_release {s : State} (node : s.ctrl.node = .manual) (hand : s.handActive = false)
    (trip : s.ctrl.trip = none) : s.evaluate =
      if s.safeActive = true then s.moveTo s.tableState else (s.moveTo s.tableState).safeRequest := by
  have evaluated : s.evaluated = s.tableState := by
    simp [State.evaluated, node, hand, trip, s.servingState_eq_tableState]
  have safe : (s.moveTo s.tableState).safeActive = s.safeActive := State.inputActive_congr (by simp) (by simp) .safe
  have serving := State.tableState_serving hand
  have manual : NodeState.serving s.ctrl.node = false := by rw [node]; rfl
  cases h : s.safeActive <;> simp [State.evaluate, evaluated, serving, manual, safe, h]

/-! ## SAFE (R55) -/

/-- A SAFE request in a serving state with HAND inactive (R48, R52, R55). -/
theorem State.safeRequest_trips {s : State} (serving : NodeState.serving s.ctrl.node = true)
    (hand : s.handActive = false) :
    s.safeRequest.ctrl = { s.ctrl with
        node := .tripped, trip := some { cause := .safe, seq := s.line.lastOut, extra := 0 } }
      ∧ hasEvent s.safeRequest.events.flags .safety = true
      ∧ DriveBlock.StoppedTo s.drive s.safeRequest.drive s.params.stopTime := by
  obtain ⟨ctrl, stopped, -⟩ := State.tripRequest_trips (s := s.raise .safety) .safe serving hand
  exact ⟨ctrl, (State.tripRequest_onlyRaises _ _).2.2 .safety (State.hasEvent_raise_self _ _), stopped⟩

theorem State.safeChange_of_serving {s : State} (serving : NodeState.serving s.ctrl.node = true) :
    s.safeChange false = s.safeRequest := by
  obtain h | h | h := (NodeState.serving_iff _).1 serving <;> simp [State.safeChange, h]

theorem State.safeChange_of_manual {s : State} (node : s.ctrl.node = .manual) :
    s.safeChange false = s.raise .safety := by
  simp [State.safeChange, node]

theorem State.safeChange_of_tripped {s : State} {r : TripRecord} (node : s.ctrl.node = .tripped)
    (trip : s.ctrl.trip = some r) :
    s.safeChange false = (s.raise .safety).withTrip (some (TripRecord.count r)) := by
  have request : s.safeChange false = s.safeRequest := by simp [State.safeChange, node]
  rw [request, State.safeRequest, State.tripRequest_of_tripped (r := r) (by simpa using node) (by simpa using trip)]

/-- A drive that stands still after one stop is left so by the next (R132). -/
theorem DriveBlock.StoppedTo.again {x y z : DriveBlock} {first second : Nat} (h : DriveBlock.StoppedTo x y first)
    (k : DriveBlock.StoppedTo y z second) : z = y := k.2.2.2 h.still

/-- The release of HAND in LOCAL without a trip and with SAFE inactive: TRIPPED by SAFE (R45, R55). -/
theorem State.release_trips_by_safe {s : State} (node : s.ctrl.node = .manual) (hand : s.handActive = false) :
    (s.moveTo s.tableState).safeRequest.ctrl = { s.ctrl with
        node := .tripped, trip := some { cause := .safe, seq := s.line.lastOut, extra := 0 } }
      ∧ hasEvent (s.moveTo s.tableState).safeRequest.events.flags .safety = true
      ∧ (s.demand.d = 0 →
        DriveBlock.StoppedTo s.drive (s.moveTo s.tableState).safeRequest.drive s.params.stopTime) := by
  have hand' : (s.moveTo s.tableState).handActive = false :=
    (State.inputActive_congr (by simp) (by simp) .hand).trans hand
  obtain ⟨ctrl, event, stopped⟩ := State.safeRequest_trips (s := s.moveTo s.tableState)
    (by simpa using State.tableState_serving hand) hand'
  refine ⟨by rw [ctrl]; simp, event, fun demand => ?_⟩
  have left := State.moveTo_of_manual_stoppedTo node (State.tableState_ne_manual hand) (.inl demand)
  rwa [left.again stopped]

/-! ## The hand-over of a change (R177, R179) -/

/-- `s` with the input taken to this level, its sample run at three (R176, log 20). -/
def State.changed (s : State) (i : InputName) (level : Level) : State :=
  s.withInput i { pin := some level, samples := some { level := level, count := 3 } }

theorem State.changed_inputActive_self (s : State) (i : InputName) (level : Level) : (s.changed i level).inputActive i =
    decide (level = if PerInput.get s.params.inputPolarity i then Level.low else Level.high) := by
  cases h : PerInput.get s.params.inputPolarity i <;>
    simp [State.changed, State.inputActive, State.withInput, PerInput.get_put, pinActive, activeLevel, h]

theorem State.changed_inputActive_of_ne (s : State) {i j : InputName} (level : Level) (h : j ≠ i) :
    (s.changed i level).inputActive j = s.inputActive j :=
  State.inputActive_of_pin (by simp [State.changed]) (by simp [State.changed, State.withInput, PerInput.get_put, h])

/-- The state that INPUT_CHANGE leaves: the level taken, and a change of the reading handed over, the establishment of
AUX excepted (R177, R179). -/
def State.inputChanged (s : State) (i : InputName) (level : Level) : State :=
  if (s.changed i level).inputActive i = s.inputActive i ∨ (i = .aux ∧ (PerInput.get s.inputs i).pin = none) then
    s.changed i level
  else (s.changed i level).handOver i ((s.changed i level).inputActive i)

theorem exec_inputChange {s : State} {i : InputName} {level : Level} (released : s.released = true)
    (new : (PerInput.get s.inputs i).pin ≠ some level) :
    exec (.inputChange i level) s = .next (s.inputChanged i level) := by
  have put (x y : InputState) : (s.withInput i x).withInput i y = s.withInput i y := by
    cases i <;> rfl
  have pin (x : InputState) : PerInput.get (s.withInput i x).inputs i = x := by
    cases i <;> rfl
  have same (x : InputState) (hx : x.pin = (PerInput.get s.inputs i).pin) :
      (s.withInput i x).inputActive i = s.inputActive i :=
    State.inputActive_of_pin (by simp) (by rw [pin, hx])
  rw [show exec (.inputChange i level) s = execInputChange i level s from rfl, execInputChange,
    if_pos ⟨released, new⟩, State.setPin, State.inputChanged, State.changed]
  simp only [pin, if_neg new, put]
  rw [same { pin := (PerInput.get s.inputs i).pin, samples := some { level := level, count := 3 } } rfl]
  split
  · next h => rw [if_pos (.inl h)]
  · next h =>
    split
    · next aux => rw [if_pos (.inr aux)]
    · next aux => rw [if_neg (not_or.2 ⟨h, aux⟩)]

theorem exec_inputChange_of_held {s : State} {i : InputName} {level : Level}
    (held : (PerInput.get s.inputs i).pin = some level) : exec (.inputChange i level) s = .next s := by
  rw [show exec (.inputChange i level) s = execInputChange i level s from rfl, execInputChange,
    if_neg fun h => h.2 held]

theorem State.handOver_onlyRaises (s : State) (i : InputName) (nowActive : Bool) :
    State.OnlyRaises s (s.handOver i nowActive) := by
  cases i
  case safe => exact (s.safeChange_reacts nowActive).raises
  case hand => exact s.evaluate_onlyRaises
  case jogF | jogR => exact (s.jogChange_reacts nowActive).raises
  case drdy => exact (s.drdyChange_reacts nowActive).raises
  case aux => exact s.raiseIf_onlyRaises _ _

theorem State.changed_frame (s : State) (i : InputName) (level : Level) :
    State.SameOutside [.inputs] s (s.changed i level) := State.withInput_frame _ _ _

theorem State.inputChanged_frame (s : State) (i : InputName) (level : Level) :
    State.SameOutside [.inputs, .ctrl, .demand, .drive, .events] s (s.inputChanged i level)
      ∧ State.OnlyRaises s (s.inputChanged i level) ∧ (s.inputChanged i level).inputs = (s.changed i level).inputs := by
  have first := (s.changed_frame i level).mono (large := [.inputs, .ctrl, .demand, .drive, .events]) (by decide)
  have raises : State.OnlyRaises s (s.changed i level) := .of_events rfl
  unfold State.inputChanged
  split
  · exact ⟨first, raises, rfl⟩
  · exact ⟨first.trans ((State.handOver_frame _ _ _).mono (by decide)), raises.trans (State.handOver_onlyRaises _ _ _),
      State.handOver_inputs _ _ _⟩

/-- A change of the reading is handed over (R179). -/
theorem State.inputChanged_of_turn {s : State} {i : InputName} {level : Level} {active : Bool}
    (reads : (s.changed i level).inputActive i = active) (turn : active ≠ s.inputActive i)
    (established : i ≠ .aux ∨ (PerInput.get s.inputs i).pin ≠ none) :
    s.inputChanged i level = (s.changed i level).handOver i active := by
  rw [State.inputChanged, reads, if_neg]
  rintro (same | ⟨aux, none⟩)
  · exact turn same
  · exact established.elim (· aux) (· none)

theorem State.handOver_aux (s : State) (nowActive : Bool) : s.handOver .aux nowActive =
    if s.params.auxEdge = .both ∨ (s.params.auxEdge = .rising ∧ nowActive = true)
      ∨ (s.params.auxEdge = .falling ∧ nowActive = false) then s.raise .aux else s := by
  cases edge : s.params.auxEdge <;> cases nowActive <;> simp [State.handOver, State.raiseIf, AuxEdge.selects, edge]

/-! ## What each reader does (R55, R61, R125, R130, R136, R137) -/

/-- SAFE that opens in a serving state (R55). -/
theorem State.safeChange_trips {s : State} (hand : s.handActive = false)
    (node : s.ctrl.node = .idle ∨ s.ctrl.node = .run ∨ s.ctrl.node = .hold) :
    (s.safeChange false).ctrl = { s.ctrl with
        node := .tripped, trip := some { cause := .safe, seq := s.line.lastOut, extra := 0 } }
      ∧ hasEvent (s.safeChange false).events.flags .safety = true
      ∧ DriveState.energizes (s.safeChange false).drive.st = false
      ∧ DriveBlock.StoppedTo s.drive (s.safeChange false).drive s.params.stopTime := by
  have serving := (NodeState.serving_iff _).2 node
  rw [State.safeChange_of_serving serving]
  obtain ⟨ctrl, event, stopped⟩ := State.safeRequest_trips serving hand
  exact ⟨ctrl, event, stopped.energizes, stopped⟩

/-- A node in service, tripped or in LOCAL is not in STANDBY, and HAND takes it to LOCAL (R45, R61). -/
theorem State.evaluate_enters_local {s : State} (hand : s.handActive = true)
    (node : s.ctrl.node = .idle ∨ s.ctrl.node = .run ∨ s.ctrl.node = .hold ∨ s.ctrl.node = .tripped) :
    s.evaluate = s.moveTo .manual ∧ s.ctrl.node ≠ .manual := by
  have known : (∀ b, s.ctrl.node ≠ .standby b) ∧ s.ctrl.node ≠ .manual := by
    obtain h | h | h | h := node <;> simp [h]
  exact ⟨State.evaluate_of_hand hand known.1, known.2⟩

theorem State.moveTo_manual_drops {s : State} (run : s.ctrl.node = .run) :
    (s.moveTo .manual).demand.d = 0 ∧ (s.moveTo .manual).demand.c = 0 := by
  have leaves : s.ctrl.node = .run ∧ NodeState.manual ≠ .run := ⟨run, by decide⟩
  rw [State.moveTo_d, State.moveTo_c, if_pos leaves, if_pos leaves]
  exact ⟨rfl, rfl⟩

/-- The jog that begins with the entry into LOCAL, by DRDY (R125, R136). -/
theorem State.moveTo_manual_jogs {s : State} {dir : Direction} (node : s.ctrl.node ≠ .manual)
    (selected : s.jogSelection = some dir)
    (off : s.drive.st = .off ∨ (s.ctrl.node = .run ∧ (s.drive.st = .resting
      ∨ ((s.drive.st = .starting ∨ s.drive.st = .running) ∧ s.params.stopTime = 0)))) :
    (s.moveTo .manual).drive.dir = dir ∧ (s.moveTo .manual).drive.jog = true
      ∧ (s.moveTo .manual).drive.period = none
      ∧ (s.drdyActive = false → (s.moveTo .manual).drive.st = .starting ∧ (s.moveTo .manual).drive.rateRef = 0)
      ∧ (s.drdyActive = true → (s.moveTo .manual).drive.st = .running ∧ (s.moveTo .manual).drive.phase = none) := by
  obtain ⟨-, direction, jog, period, starting, running⟩ := State.moveTo_manual_begins_jog node selected off
  rw [State.drdyActive_congr (s.enteredLocal_frame .table (by decide)) (s.enteredLocal_frame .inputs (by decide))]
    at starting running
  exact ⟨direction, jog, period, fun waits => ⟨(starting waits).1, (starting waits).2.1⟩,
    fun ready => ⟨(running ready).1, (running ready).2.1⟩⟩

/-- The release of HAND with a trip (R45, R63). -/
theorem State.release_to_tripped {s : State} {r : TripRecord} (node : s.ctrl.node = .manual)
    (hand : s.handActive = false) (trip : s.ctrl.trip = some r) :
    s.evaluate.ctrl = { s.ctrl with node := .tripped } ∧ DriveState.energizes s.evaluate.drive.st = false
      ∧ DriveBlock.StoppedTo s.drive s.evaluate.drive s.params.stopTime := by
  have stopped : DriveBlock.StoppedTo s.drive (s.moveTo .tripped).drive s.params.stopTime :=
    State.moveTo_stoppedTo (by simp [node]) (.inr (.inl node)) (by decide) (by decide)
  rw [State.evaluate_of_release_tripped node hand trip]
  exact ⟨State.moveTo_ctrl _ _, stopped.energizes, stopped⟩

/-- A jog input at OFF in LOCAL, where a direction is selected (R136). -/
theorem State.jogChange_begins {s : State} {dir : Direction} {nowActive : Bool} (node : s.ctrl.node = .manual)
    (off : s.drive.st = .off) (free : s.drive.lockout = false ∨ nowActive = true)
    (selected : s.jogSelection = some dir) : s.JogBegun dir (s.jogChange nowActive) := by
  rw [State.jogChange_of_off node off free]
  exact (State.startJogIfDue_begins (s := s.withDrive { s.drive with lockout := false }) node off rfl selected).of_frame
    (s.withDrive_frame _)

/-- DRDY that becomes active ends STARTING (R125). -/
theorem State.drdyChange_of_starting {s : State} (ready : s.drdyActive = true) (starting : s.drive.st = .starting) :
    s.drdyChange true = s.enterRunning := by
  simp [State.drdyChange, State.takeReady, starting, ready]

/-- DRDY lost in RUNNING faults the drive (R130). -/
theorem State.drdyChange_of_running {s : State} (running : s.drive.st = .running) :
    s.drdyChange false = s.faultDrive := by
  simp [State.drdyChange, running]

theorem State.handOver_of_jog {i : InputName} (jog : i = .jogF ∨ i = .jogR) (s : State) (nowActive : Bool) :
    s.handOver i nowActive = s.jogChange nowActive := by
  obtain rfl | rfl := jog <;> rfl

/-- Settles O37, clause by clause from what each reader does with the change handed to it. -/
theorem inputChangeReachesReader : Obligations.InputChangeReachesReader := by
  unfold Obligations.InputChangeReachesReader
  refine ⟨fun i level s held => exec_inputChange_of_held held, fun i level s released new => ?_⟩
  intro active u
  have reads : u.inputActive i = active := s.changed_inputActive_self i level
  have others {j : InputName} (h : j ≠ i) : u.inputActive j = s.inputActive j := s.changed_inputActive_of_ne level h
  have turn : active ≠ s.inputActive i → (i ≠ .aux ∨ (PerInput.get s.inputs i).pin ≠ none) →
      s.inputChanged i level = u.handOver i active := State.inputChanged_of_turn reads
  have turnTo {now : Bool} (is : active = now) (was : s.inputActive i = !now) (reader : i ≠ .aux) :
      s.inputChanged i level = u.handOver i now := by
    rw [turn (by simp [is, was]) (.inl reader), is]
  have jogTurn (jog : i = .jogF ∨ i = .jogR) (edge : active ≠ s.inputActive i) :
      s.inputChanged i level = u.jogChange active := by
    rw [turn edge (.inl (by obtain rfl | rfl := jog <;> decide)), State.handOver_of_jog jog]
  obtain ⟨frame, raises, inputs⟩ := s.inputChanged_frame i level
  refine ⟨_, exec_inputChange released new, inputs, frame, raises, fun same => if_pos (.inl (reads.trans same)), turn,
    ?aux, fun aux none => if_pos (.inr ⟨aux, none⟩), ?safeServing, ?safeLocal, ?safeTripped, ?handOn, ?releaseTripped,
    ?release, ?releaseUnsafe, ?jogBegins, ?jogEnds, ?jogLockout, ?ready, ?lost⟩
  case aux =>
    rintro rfl edge established
    exact (turn edge (.inr established)).trans (u.handOver_aux active)
  case safeServing =>
    rintro rfl off safe hand node
    rw [turnTo off safe (by decide)]
    exact State.safeChange_trips (s := u) ((others (j := .hand) (by decide)).trans hand) node
  case safeLocal =>
    rintro rfl off safe node
    exact (turnTo off safe (by decide)).trans (State.safeChange_of_manual (s := u) node)
  case safeTripped =>
    rintro r rfl off safe node trip
    exact (turnTo off safe (by decide)).trans (State.safeChange_of_tripped (s := u) node trip)
  case handOn =>
    rintro rfl on hand node
    have drdy : u.drdyActive = s.drdyActive := others (j := .drdy) (by decide)
    obtain ⟨evaluate, notManual⟩ := State.evaluate_enters_local (s := u) (reads.trans on) node
    rw [(turnTo on hand (by decide)).trans evaluate, ← drdy]
    obtain ⟨event, lockout⟩ := State.moveTo_manual_notes notManual
    exact ⟨State.moveTo_ctrl _ _, event, lockout, State.moveTo_manual_drops (s := u),
      State.moveTo_manual_stoppedTo (s := u),
      State.moveTo_manual_drive notManual, fun dir => State.moveTo_manual_jogs notManual⟩
  case releaseTripped =>
    rintro r rfl off hand node trip
    rw [turnTo off hand (by decide)]
    exact State.release_to_tripped (s := u) node (reads.trans off) trip
  case release =>
    rintro rfl off hand node trip safe
    have hand' : u.handActive = false := reads.trans off
    have safe' : u.safeActive = true := (others (j := .safe) (by decide)).trans safe
    rw [turnTo off hand (by decide), show u.handOver .hand false = u.evaluate from rfl,
      State.evaluate_of_release (s := u) node hand' trip, if_pos safe']
    exact ⟨State.moveTo_ctrl _ _, State.moveTo_of_manual_stoppedTo (s := u) node (State.tableState_ne_manual hand')⟩
  case releaseUnsafe =>
    rintro rfl off hand node trip safe
    have hand' : u.handActive = false := reads.trans off
    have safe' : u.safeActive = false := (others (j := .safe) (by decide)).trans safe
    rw [turnTo off hand (by decide), show u.handOver .hand false = u.evaluate from rfl,
      State.evaluate_of_release (s := u) node hand' trip, if_neg (by simp [safe'])]
    exact State.release_trips_by_safe (s := u) node hand'
  case jogBegins =>
    intro dir jog edge node off free selected
    have drdy : u.drdyActive = s.drdyActive := others (j := .drdy) (by obtain rfl | rfl := jog <;> decide)
    rw [jogTurn jog edge, ← drdy]
    obtain ⟨drive, direction, jogs, period, starting, running⟩ :=
      State.jogChange_begins (s := u) (nowActive := active) node off free selected
    exact ⟨((s.changed_frame i level).mono (by decide)).trans (drive.mono (by decide)), direction, jogs, period,
      starting, running⟩
  case jogEnds =>
    intro jog edge node jogs on unselected stopTime
    exact (jogTurn jog edge).trans (State.jogChange_of_end (s := u) active node jogs on unselected stopTime)
  case jogLockout =>
    intro jog edge
    rw [jogTurn jog edge]
    exact State.jogChange_lockout u active
  case ready =>
    rintro rfl on drdy starting
    have entered : s.inputChanged .drdy level = u.enterRunning :=
      (turnTo on drdy (by decide)).trans (State.drdyChange_of_starting (reads.trans on) starting)
    rw [entered]
    exact ⟨rfl, rfl, rfl⟩
  case lost =>
    rintro rfl off drdy running
    have faulted : s.inputChanged .drdy level = u.faultDrive :=
      (turnTo off drdy (by decide)).trans (State.drdyChange_of_running running)
    obtain ⟨lockout, drive⟩ := u.faultDrive_drive
    rw [faulted, drive]
    exact ⟨rfl, rfl, rfl, u.faultDrive_hasEvent⟩

end Sys2Proof.Machine
end

section
/-! SUPPORT. The arithmetic of the motion computation (R70 to R78): each step's bound, and the obligation about the rate and
the feedforward speed. -/

namespace Sys2Proof.Machine

/-! ## The effective rate and the linear speed (R70, R71) -/

theorem effectiveRate_of_closed (omega ceiling own : Nat) :
    effectiveRate omega ceiling own false = omega * min ceiling own / 1000 := rfl

theorem mul_ceiling_le {omega ceiling : Nat} (h : ceiling ≤ 1000) (own : Nat) :
    omega * min ceiling own ≤ omega * 1000 :=
  Nat.mul_le_mul_left omega ((Nat.min_le_left ceiling own).trans h)

theorem effectiveRate_le {omega ceiling : Nat} (h : ceiling ≤ 1000) (own : Nat) (chainOpen : Bool) :
    effectiveRate omega ceiling own chainOpen ≤ omega := by
  have product := mul_ceiling_le (omega := omega) h own
  cases chainOpen
  · rw [effectiveRate_of_closed]
    omega
  · exact Nat.zero_le omega

theorem linearSpeed_zero (radius : Nat) : linearSpeed 0 radius = 0 := by simp [linearSpeed, roundDiv]

/-- The largest rate and radius bound the product of R71, which then fits 48 bits. -/
theorem linearSpeed_product_le {omega radius : Nat} (rate : omega ≤ 6000) (far : radius ≤ 9999) :
    omega * radius * 29089 ≤ 6000 * 9999 * 29089 :=
  Nat.mul_le_mul_right 29089 (Nat.mul_le_mul rate far)

theorem linearSpeed_le {omega radius : Nat} (rate : omega ≤ 6000) (far : radius ≤ 9999) :
    linearSpeed omega radius ≤ 17452 := by
  have product := linearSpeed_product_le rate far
  unfold linearSpeed roundDiv
  omega

/-- Settles O25: the closed forms are the definitions', and the bounds follow from those of the products. -/
theorem rateAndFeedforward : Obligations.RateAndFeedforward := by
  refine ⟨fun rate ceiling own => ⟨rfl, rfl, fun low => effectiveRate_le low own false, fun slow low => ?_⟩,
    fun rate radius => ⟨rfl, fun slow far => ⟨linearSpeed_le slow far, ?_⟩, linearSpeed_zero radius⟩⟩
  · have product := mul_ceiling_le (omega := rate) low own
    exact ⟨(effectiveRate_le low own false).trans slow, by omega⟩
  · have product := linearSpeed_product_le slow far
    omega

/-! ## The demand speed, the candidates (R74, R75, R77) -/

theorem demandSpeed_le (vmax vff : Nat) (dv : Int) : demandSpeed vmax vff dv ≤ vmax := by
  unfold demandSpeed
  split
  · exact Nat.le_refl vmax
  · omega

theorem candidateDemand_zero (vmax : Nat) : candidateDemand 0 vmax = 0 := by
  simp only [candidateDemand, roundDiv, Nat.zero_mul, Nat.zero_add]
  obtain rfl | pos := Nat.eq_zero_or_pos vmax
  · rfl
  · exact Nat.div_eq_of_lt (Nat.div_lt_self pos (by decide))

theorem candidateDemand_self {vmax : Nat} (h : vmax ≠ 0) : candidateDemand vmax vmax = 1000 := by
  rw [candidateDemand, roundDiv, Nat.mul_add_div (Nat.pos_of_ne_zero h),
    Nat.div_eq_of_lt (Nat.div_lt_self (Nat.pos_of_ne_zero h) (by decide))]

/-- A speed within VMAX is a demand of at most 1000, the demand of VMAX itself (R75). -/
theorem candidateDemand_le {v vmax : Nat} (h : v ≤ vmax) : candidateDemand v vmax ≤ 1000 := by
  by_cases unset : vmax = 0
  · simp [unset, candidateDemand, roundDiv]
  · rw [← candidateDemand_self unset]
    exact Nat.div_le_div_right (Nat.add_le_add_right (Nat.mul_le_mul_right 1000 h) _)

theorem capabilityCap_le (p : Params) (vCmd : Nat) : capabilityCap p vCmd ≤ 1000 := by
  unfold capabilityCap
  split
  · exact Nat.le_refl 1000
  · exact Nat.min_le_left _ _

theorem motionSteps_candidate_le (p : Params) (role : Role) (omega ceiling own : Nat) (chainOpen : Bool)
    (sign theta : Int) : (motionSteps p role omega ceiling own chainOpen sign theta).candidate ≤ 1000 := by
  unfold motionSteps
  split
  · exact candidateDemand_le (demandSpeed_le _ _ _)
  · exact Nat.zero_le 1000

/-- Step 6 hands on the smaller of the capability cap and the own limit (R77). -/
theorem motionSteps_contribution_le (p : Params) (role : Role) (omega ceiling own : Nat) (chainOpen : Bool)
    (sign theta : Int) : (motionSteps p role omega ceiling own chainOpen sign theta).contribution ≤ min 1000 own := by
  unfold motionSteps
  split
  · exact min_le_min_right own (capabilityCap_le _ _)
  · exact Nat.zero_le _

end Sys2Proof.Machine
end

section
/-! SUPPORT. What stage 4 settles (R75, R78), and the law of the demand at every operation that moves the node, at every
command and every step, with the obligation about it. A lemma `State.DemandLaw.f` says that `f` keeps the law. -/

namespace Sys2Proof.Machine

/-! ## What stage 4 settles -/

@[simp] theorem State.startIfDue_dirChange (s : State) : s.startIfDue.drive.dirChange = s.drive.dirChange := by
  unfold State.startIfDue State.startDutyPeriod State.startRate State.beginStarting
  simp only
  (repeat' split) <;> simp

@[simp] theorem State.actOnDemand_dirChange (s : State) : s.actOnDemand.drive.dirChange = s.drive.dirChange := by
  unfold State.actOnDemand State.actDuty State.actRate State.endOnTime
  (repeat' split) <;> simp

/-- The contribution after stage 4: that of the steps in RUN, else 0 (R78). -/
theorem State.stageMotion_c (s : State) (f : Frame) : (s.stageMotion f).demand.c =
    if (s.stageMotion f).ctrl.node = .run then (s.stageResult f).contribution else 0 := by
  rw [s.stageResult_eq f, State.stageMotion_eq, State.handDemandOver_c, State.handDemandOver_ctrl,
    State.settleContribution_ctrl]
  rfl

/-- The demand after stage 4: the candidate of the steps in RUN with no change of direction under way, else 0 (R75). -/
theorem State.stageMotion_d (s : State) (f : Frame) : (s.stageMotion f).demand.d =
    if (s.stageMotion f).ctrl.node = .run ∧ (s.stageMotion f).drive.dirChange = false
    then (s.stageResult f).candidate else 0 := by
  rw [s.stageResult_eq f, State.stageMotion_eq, State.handDemandOver, State.actOnDemand_d, State.actOnDemand_ctrl,
    State.actOnDemand_dirChange, State.settleDemand_ctrl, State.settleDemand_drive]
  rfl

/-! ## The law and a move of the node -/

/-- Whatever the demand was, stage 4 settles a lawful one. -/
theorem State.stageMotion_demandLaw (s : State) (f : Frame) : (s.stageMotion f).DemandLaw := by
  refine ⟨?_, ?_, fun h => ⟨State.stageMotion_d_of_not_run h, State.stageMotion_c_of_not_run h⟩⟩
  · rw [State.stageMotion_d]
    split
    · exact motionSteps_candidate_le ..
    · exact Nat.zero_le 1000
  · rw [State.stageMotion_c]
    split
    · exact (motionSteps_contribution_le ..).trans (Nat.min_le_left _ _)
    · exact Nat.zero_le 1000

/-- The law reads the node state, d and c alone. -/
theorem State.DemandLaw.of_fields {s t : State} (law : s.DemandLaw) (node : t.ctrl.node = s.ctrl.node)
    (d : t.demand.d = s.demand.d) (c : t.demand.c = s.demand.c) : t.DemandLaw := by
  rwa [State.DemandLaw, node, d, c]

theorem State.DemandLaw.of_blocks {s t : State} (law : s.DemandLaw) (ctrl : t.ctrl = s.ctrl)
    (demand : t.demand = s.demand) : t.DemandLaw :=
  law.of_fields (by rw [ctrl]) (by rw [demand]) (by rw [demand])

theorem State.DemandLaw.of_zero {s : State} (d : s.demand.d = 0) (c : s.demand.c = 0) : s.DemandLaw :=
  ⟨by simp [d], by simp [c], fun _ => ⟨d, c⟩⟩

/-- An operation that acts on a condition keeps the law when its act does. -/
theorem State.DemandLaw.ite {s t : State} {p : Prop} [Decidable p] (law : s.DemandLaw) (act : p → t.DemandLaw) :
    (if p then t else s).DemandLaw := by
  split
  · next h => exact act h
  · exact law

theorem State.DemandLaw.raise {s : State} (law : s.DemandLaw) (e : Event) : (s.raise e).DemandLaw :=
  law.of_blocks (by simp) (by simp)

/-- A move of the node keeps the law wherever it leads: leaving RUN clears d and c, and outside RUN both are 0 (R48). -/
theorem State.DemandLaw.moveTo {s : State} (law : s.DemandLaw) (n : NodeState) : (s.moveTo n).DemandLaw := by
  by_cases leaves : s.ctrl.node = .run ∧ n ≠ .run
  · exact .of_zero (by rw [State.moveTo_d, if_pos leaves]) (by rw [State.moveTo_c, if_pos leaves])
  · obtain ⟨d, c, rest⟩ := law
    rw [State.DemandLaw, State.moveTo_d, State.moveTo_c, if_neg leaves, if_neg leaves, State.moveTo_ctrl]
    exact ⟨d, c, fun notRun => rest fun run => leaves ⟨run, notRun⟩⟩

/-! ## Trips, evaluations and the hold causes (R44, R45, R50 to R55) -/

theorem State.DemandLaw.withTrip {s : State} (law : s.DemandLaw) (r : Option TripRecord) : (s.withTrip r).DemandLaw :=
  law

theorem State.DemandLaw.tripRequest {s : State} (law : s.DemandLaw) (cause : TripCause) :
    (s.tripRequest cause).DemandLaw := by
  unfold State.tripRequest
  split
  case h_1 => exact law
  case h_2 | h_3 | h_4 => exact ((law.withTrip _).moveTo _).moveTo _
  case h_5 => exact law.withTrip _
  case h_6 => (repeat' split) <;> exact law

theorem State.DemandLaw.tripRequestIf {s : State} (law : s.DemandLaw) (b : Bool) (cause : TripCause) :
    (s.tripRequestIf b cause).DemandLaw := law.ite fun _ => law.tripRequest cause

theorem State.DemandLaw.safeRequest {s : State} (law : s.DemandLaw) : s.safeRequest.DemandLaw :=
  (law.raise .safety).tripRequest .safe

theorem State.DemandLaw.evaluate {s : State} (law : s.DemandLaw) : s.evaluate.DemandLaw :=
  (law.moveTo _).ite fun _ => (law.moveTo _).safeRequest

theorem State.DemandLaw.setHolds {s : State} (law : s.DemandLaw) (h : HoldCauses) : (s.setHolds h).DemandLaw := by
  unfold State.setHolds
  split
  · exact law
  · exact State.DemandLaw.evaluate (s := s.withHolds h) law

theorem State.DemandLaw.enterChain {s : State} (law : s.DemandLaw) (opener : Bool) :
    (s.enterChain opener).DemandLaw := by
  unfold State.enterChain
  split
  · exact law
  · exact State.DemandLaw.setHolds (law.of_blocks (by simp) (by simp)) _

theorem State.DemandLaw.faultDrive {s : State} (law : s.DemandLaw) : s.faultDrive.DemandLaw :=
  State.DemandLaw.tripRequest (law.of_blocks (by simp) (by simp)) .driveFault

/-! ## The drive (R122, R127, R133, R137) -/

theorem State.DemandLaw.endJog {s : State} (law : s.DemandLaw) : s.endJog.DemandLaw :=
  law.ite fun _ => law.of_fields (by simp) (by simp) (by simp)

theorem State.DemandLaw.stallTest {s : State} (law : s.DemandLaw) : s.stallTest.DemandLaw := by
  have stalled : s.stalled.DemandLaw := law.of_blocks (by simp [State.stalled]) (by simp [State.stalled])
  have trip := stalled.tripRequestIf s.params.tripEnables.stall .stall
  refine law.ite fun _ => ?_
  obtain e | ⟨-, e⟩ := s.raiseStall_cases <;> rw [e]
  · exact trip
  · exact State.DemandLaw.endJog (trip.of_blocks rfl rfl)

/-! ## Slot commands (R59, R184) -/

theorem State.DemandLaw.applyClearSet {s : State} (law : s.DemandLaw) (named : Word16) :
    (s.applyClearSet named).DemandLaw := by
  unfold State.applyClearSet
  simp only
  (repeat' split) <;> exact law

/-- An accepted drive reset takes a node from TRIPPED, where d and c are 0 (R59). -/
theorem State.DemandLaw.applyDriveReset {s : State} (law : s.DemandLaw) : s.applyDriveReset.DemandLaw := by
  refine law.ite fun tripped => ?_
  split
  · have zero := law.2.2 (by simp [tripped])
    exact State.DemandLaw.evaluate (.of_zero (by split <;> simp [zero.1]) (by split <;> simp [zero.2]))
  · exact law

/-! ## Inputs (R55, R136, R179) -/

theorem State.DemandLaw.safeChange {s : State} (law : s.DemandLaw) (nowActive : Bool) :
    (s.safeChange nowActive).DemandLaw := by
  unfold State.safeChange
  (repeat' split)
  case isTrue => exact law.evaluate
  case h_1 => exact law
  case h_2 => exact law.raise .safety
  all_goals exact law.safeRequest

theorem State.DemandLaw.jogChange {s : State} (law : s.DemandLaw) (nowActive : Bool) :
    (s.jogChange nowActive).DemandLaw := by
  have jog {a : State} (ha : a.DemandLaw) (p : Prop) [Decidable p] :
      (if p then a.endJog else a.startJogIfDue).DemandLaw := by
    split
    · exact ha.endJog
    · exact ha.of_blocks (by simp) (by simp)
  have cleared : (if nowActive = true ∧ s.drive.st = .off then s.withDrive { s.drive with lockout := false }
      else s).DemandLaw := law.ite fun _ => law
  exact cleared.ite fun _ => jog cleared _

theorem State.DemandLaw.drdyChange {s : State} (law : s.DemandLaw) (nowActive : Bool) :
    (s.drdyChange nowActive).DemandLaw := by
  unfold State.drdyChange
  split
  · exact law.of_blocks (by simp) (by simp)
  · exact law.ite fun _ => law.faultDrive

theorem State.DemandLaw.handOver {s : State} (law : s.DemandLaw) (i : InputName) (nowActive : Bool) :
    (s.handOver i nowActive).DemandLaw := by
  cases i
  case safe => exact law.safeChange nowActive
  case hand => exact law.evaluate
  case jogF | jogR => exact law.jogChange nowActive
  case drdy => exact law.drdyChange nowActive
  case aux => exact law.of_blocks (by simp [State.handOver]) (by simp [State.handOver])

theorem State.DemandLaw.setPin {s : State} (law : s.DemandLaw) (i : InputName) (level : Level) :
    (s.setPin i level).DemandLaw := by
  unfold State.setPin
  simp only
  (repeat' split)
  · exact law
  · exact law
  · exact law
  · exact State.DemandLaw.handOver (s := s.withInput i _) law _ _

theorem State.DemandLaw.sampleInput {s : State} (law : s.DemandLaw) (i : InputName) (level : Level) :
    (s.sampleInput i level).DemandLaw := by
  have sampled (x : InputState) : (s.withInput i x).DemandLaw := law
  exact (sampled _).ite fun _ => (sampled _).setPin i level

/-! ## The span line (R17, R18, R20, R38) -/

theorem State.DemandLaw.arriveFrame {s : State} (law : s.DemandLaw) (link : Link) (burst : List RxByte) :
    (s.arriveFrame link burst).DemandLaw := by
  have arrived : s.outboundArrival.DemandLaw := law.setHolds { s.ctrl.holds with linkLost := false }
  unfold State.arriveFrame
  (repeat' split)
  · exact law.raise .lineError
  · exact arrived.of_blocks (by simp) (by simp)
  · exact law.of_blocks (by simp) (by simp)

theorem State.DemandLaw.latchInbound {s : State} (law : s.DemandLaw) (f : Frame) : (s.latchInbound f).DemandLaw := by
  have latched : (s.latched f).DemandLaw := law
  obtain ⟨-, e⟩ | ⟨-, -, e⟩ | ⟨-, -, e⟩ := s.latchInbound_cases f <;> rw [e]
  · exact latched.enterChain _
  · exact latched.setHolds _
  · exact latched

theorem State.DemandLaw.takeInbound {s : State} (law : s.DemandLaw) (f : Frame) : (s.takeInbound f).DemandLaw := by
  have marked (x : LineBlock) : (s.withLine x).DemandLaw := law
  have accepted : (s.acceptReturn f).DemandLaw := State.DemandLaw.latchInbound ((marked _).setHolds _) f
  exact law.ite fun _ => accepted

/-! ## Outbound processing (R23) -/

theorem State.DemandLaw.stageChain {s : State} (law : s.DemandLaw) (f : Frame) : (s.stageChain f).DemandLaw := by
  have noted (x : SlotBlock) : (s.withSlot x).DemandLaw := law
  unfold State.stageChain
  split
  · exact (noted _).enterChain true
  · exact noted _

theorem State.DemandLaw.turnAround {s : State} (law : s.DemandLaw) (ceiling : Nat) (chainOpen : Bool) :
    (s.turnAround ceiling chainOpen).DemandLaw := by
  have noted (x : SlotBlock) : (s.withSlot x).DemandLaw := law
  unfold State.turnAround
  split
  · exact (noted _).enterChain _
  · exact (noted _).setHolds _

theorem State.DemandLaw.endStages {s : State} (law : s.DemandLaw) (ceiling : Nat) (chainOpen : Bool) :
    (s.endStages ceiling chainOpen).DemandLaw := by
  unfold State.endStages
  split
  · exact (law.stallTest.turnAround ceiling chainOpen).of_blocks (by simp) (by simp)
  · exact law.stallTest.of_blocks (by simp) (by simp)

/-- A processing leaves a lawful demand whatever it began with: the stages after the computation keep what it settles. -/
theorem State.processed_demandLaw (s : State) (f : Frame) : (s.processed f).DemandLaw := by
  have motion : (s.throughMotion f).DemandLaw := State.stageMotion_demandLaw _ f
  have service := (s.throughChain f).stageService_frame (s.frameThroughChain f)
  have served : (s.afterService f).DemandLaw :=
    (motion.stageChain f).of_blocks (service .ctrl (by decide)) (service .demand (by decide))
  have sent := s.processed_frame f
  refine State.DemandLaw.of_blocks ?_ (sent .ctrl (by decide)) (sent .demand (by decide))
  rw [State.processFrame_fst]
  exact served.endStages _ _

/-! ## Every command, every step -/

/-- Every reset of all blocks leaves d and c at 0 (R42). -/
theorem State.BlocksAtReset.demandLaw {s : State} (h : s.BlocksAtReset) : s.DemandLaw := by
  obtain ⟨-, -, -, ⟨d, c, -⟩, -⟩ := h
  exact .of_zero d c

theorem State.DemandLaw.serveCommand {s : State} (law : s.DemandLaw) (op : Byte) (q : Request) :
    (s.serveCommand op q).DemandLaw := by
  have frame := s.serve_frame (recordOf op q)
  exact law.ite fun _ => law.of_blocks (frame .ctrl (by decide)) (frame .demand (by decide))

theorem execInboundTake_demandLaw {s t : State} (law : s.DemandLaw) (h : execInboundTake s = .next t) :
    t.DemandLaw := by
  obtain rfl := Host.Outcome.next.inj h
  refine law.ite fun _ => ?_
  split
  · exact law.takeInbound _
  · exact law
  · exact law

theorem execOutboundProcessing_demandLaw {s t : State} (law : s.DemandLaw) (h : execOutboundProcessing s = .next t) :
    t.DemandLaw := by
  obtain rfl := Host.Outcome.next.inj h
  refine law.ite fun _ => ?_
  split
  · exact s.processed_demandLaw _
  · exact law
  · exact law

theorem execLineResetEffect_demandLaw {s t : State} (law : s.DemandLaw) (h : execLineResetEffect s = .next t) :
    t.DemandLaw := by
  obtain rfl := Host.Outcome.next.inj h
  refine law.ite fun _ => ?_
  split
  · exact law
  · exact (s.resetBlocks_blocksAtReset _).demandLaw

/-- Every command keeps the law: a reset clears d and c, a processing settles them, the commands that move the node keep
it act by act, and no other command writes d, c or the node state. -/
theorem exec_demandLaw {c : Instr} {s t : State} (law : s.DemandLaw) (h : exec c s = .next t) : t.DemandLaw := by
  cases c
  case inboundTake => exact execInboundTake_demandLaw law h
  case outboundProcessing => exact execOutboundProcessing_demandLaw law h
  case lineResetEffect => exact execLineResetEffect_demandLaw law h
  all_goals obtain rfl := Host.Outcome.next.inj h
  case powerOnReset =>
    split
    · exact law
    · exact (s.resetBlocks_blocksAtReset false).demandLaw
  case supplyLoss => exact law.ite fun _ => (s.resetBlocks_blocksAtReset false).demandLaw
  case initialisationEnd => exact law.ite fun _ => (State.resetBlocks_blocksAtReset _ false).demandLaw
  case pinReset => exact (s.resetBlocks_blocksAtReset false).demandLaw
  case frameArrival => exact law.ite fun _ => law.arriveFrame _ _
  case driveReset => exact law.ite fun _ => law.applyDriveReset
  case frameTimeout => exact law.ite fun _ => (law.raise .linkLost).setHolds _
  case stall => exact law.ite fun _ => law.stallTest
  case startTimeout => exact law.ite fun _ => law.faultDrive
  case inputChange => exact law.ite fun _ => State.DemandLaw.setPin (s := s.withInput _ _) law _ _
  case inputSample => exact law.ite fun _ => State.DemandLaw.sampleInput (s := s.markSampled _) law _ _
  case wheelTick =>
    refine law.ite fun _ => State.DemandLaw.stallTest ?_
    split <;> exact law.of_blocks (by simp) (by simp)
  case readParam | writeParam | readEntry | writeEntry | trimEntries | stageFromActive | commit | setEvents | readLive
      | lineReset =>
    exact law.serveCommand _ _
  case unknownOp =>
    split
    · exact law
    · exact law.serveCommand _ _
  case restingEnd => exact law.ite fun _ => law.of_fields (by simp) (by simp [State.endRest]) (by simp [State.endRest])
  case stopTimeEnd => exact law.ite fun _ => law.of_fields (by simp) (by simp) (by simp)
  case clearSet => exact law.ite fun _ => law.applyClearSet _
  all_goals exact law.ite fun _ => law.of_blocks (by simp) (by simp)

/-- Settles O54: every command keeps the law, and a step is a command or idles. -/
theorem demandLawIsKept : Obligations.DemandLawIsKept := by
  intro s t law h
  cases pending : s.pending with
  | nil =>
    rw [step, pending] at h
    obtain rfl := Host.Outcome.next.inj h
    exact law
  | cons c rest =>
    rw [step_cons s c rest pending] at h
    exact exec_demandLaw (s := s.withPending rest) law h

end Sys2Proof.Machine
end

section
/-! SUPPORT. What a computation takes from Joint Capture (R68, R95 to R97, R103), steps 3 to 6 (R72 to R78), and the
obligations about them. -/

namespace Sys2Proof.Machine

/-! ## The angle taken (R68, R95, R103) -/

theorem State.hasEvent_raiseIf (s : State) (b : Bool) (e e' : Event) :
    hasEvent (s.raiseIf b e).events.flags e' = (hasEvent s.events.flags e' || (b && decide (e = e'))) := by
  cases b
  · simp [State.raiseIf]
  · simpa [State.raiseIf] using s.hasEvent_raise e e'

theorem State.takeJoint_of_end {s : State} (last : s.isEnd = true) :
    s.takeJoint = s.withDemand { s.demand with theta := 0 } := if_pos last

theorem State.takeJoint_of_fresh {s : State} {theta : Int} (mid : s.isEnd = false) (fresh : s.freshAngle = some theta) :
    s.takeJoint = s.takeValidAngle theta := by
  simp [State.takeJoint, mid, fresh]

theorem State.takeJoint_of_held {s : State} (mid : s.isEnd = false) (held : s.freshAngle = none) :
    s.takeJoint = s.takeHeldAngle := by
  simp [State.takeJoint, mid, held]

/-- The angle in use after the input step: 0 at END, else that of a valid reading, else the last valid one. -/
theorem State.takeJoint_theta (s : State) : s.takeJoint.demand.theta =
    if s.isEnd then 0 else s.freshAngle.getD s.joint.lastTheta := by
  cases role : s.isEnd
  · cases fresh : s.freshAngle with
    | none => simp [State.takeJoint_of_held role fresh, State.takeHeldAngle, State.raiseCondition]
    | some theta => simp [State.takeJoint_of_fresh role fresh, State.takeValidAngle]
  · simp [State.takeJoint_of_end role]

/-- The alignment checks of a valid angle (R97). -/
theorem State.takeValidAngle_hasEvent (s : State) (theta : Int) :
    hasEvent (s.takeValidAngle theta).events.flags .alignWarn = (hasEvent s.events.flags .alignWarn
        || decide (s.params.warnLimit ≤ theta.natAbs ∨ s.params.safetyLimit ≤ theta.natAbs))
      ∧ hasEvent (s.takeValidAngle theta).events.flags .alignTrip =
        (hasEvent s.events.flags .alignTrip || decide (s.params.safetyLimit ≤ theta.natAbs)) := by
  simp [State.takeValidAngle, State.hasEvent_raiseIf]

/-- A held angle raises CONDITION, and SENSOR_LOST at HOLD_LIMIT (R81, R96). -/
theorem State.takeHeldAngle_hasEvent (s : State) : hasEvent s.takeHeldAngle.events.flags .condition = true
    ∧ (s.heldCount = s.params.holdLimit → hasEvent s.takeHeldAngle.events.flags .sensorLost = true) := by
  refine ⟨?_, fun limit => ?_⟩
  · simp [State.takeHeldAngle, State.hasEvent_raiseIf, State.raiseCondition, State.hasEvent_raise_self]
  · simp [State.takeHeldAngle, State.hasEvent_raiseIf, limit]

/-- Settles O31, by the role and the valid flag. -/
theorem jointAngleIsTaken : Obligations.JointAngleIsTaken := by
  intro s
  refine ⟨fun role => ?_, fun role valid r reading => ?_, fun role valid => ?_, s.takeJoint_frame,
    s.takeJoint_reacts.raises⟩
  · have last := State.isEnd_of_endNode role
    exact ⟨State.takeJoint_of_end last, if_pos last⟩
  · have mid := State.isEnd_of_mid role
    have fresh := State.freshAngle_of_reading valid reading
    obtain ⟨warn, trip⟩ := s.takeValidAngle_hasEvent (jointAngle s.params r)
    rw [State.takeJoint_of_fresh mid fresh]
    exact ⟨by simp [State.takeValidAngle], by simp [State.takeValidAngle], warn, trip,
      by simp [State.captureRequest, mid, fresh]⟩
  · have mid := State.isEnd_of_mid role
    have held : s.freshAngle = none := s.freshAngle_eq_none_iff.2 (.inl valid)
    obtain ⟨condition, lost⟩ := s.takeHeldAngle_hasEvent
    obtain ⟨causes, sticky⟩ := s.takeJoint_conditions
    have taken := State.takeJoint_of_held mid held
    exact ⟨by simp [taken, State.takeHeldAngle, State.heldCount], by simp [s.takeJoint_theta, mid, held],
      by simp [causes, State.angleHeld, mid, held], by simp [sticky, State.angleHeld, mid, held], taken ▸ condition,
      taken ▸ lost, by simp [State.captureRequest, mid, held, State.heldCount]⟩

/-- The angle that stage 4 reports (R68). -/
theorem State.stageMotion_theta (s : State) (f : Frame) : (s.stageMotion f).demand.theta =
    if s.isEnd then 0 else s.freshAngle.getD s.joint.lastTheta := by
  have joint : ((s.beginMotion f).fielded f).joint = s.joint := by simp [State.fielded]
  have params : ((s.beginMotion f).fielded f).params = s.params := by simp [State.fielded]
  have role : ((s.beginMotion f).fielded f).isEnd = s.isEnd := by simp [State.fielded]
  rw [(s.stageMotion_keepsAngle f).theta, State.computing, State.inputStep_eq, State.takeJoint_theta,
    State.freshAngle_congr joint params, joint, role]

/-! ## Steps 3 to 6 (R72 to R77) -/

theorem deadbandError_eq (e : Int) (deadband : Nat) : deadbandError e deadband =
    if e.natAbs ≤ deadband then 0 else if 0 < e then e - deadband else e + deadband := by
  unfold deadbandError
  split
  · rfl
  · next out =>
    split
    · next pos => rw [Int.sign_eq_one_of_pos pos, Int.one_mul]
    · next neg =>
      rw [Int.sign_eq_neg_one_of_neg (by omega)]
      omega

theorem clampTo_eq (limit : Nat) (z : Int) :
    clampTo limit z = if (limit : Int) < z then (limit : Int) else if z < -(limit : Int) then -(limit : Int) else z := by
  unfold clampTo
  (repeat' split) <;> omega

theorem speedCorrection_of_stopped (p : Params) (role : Role) (sign theta : Int) :
    speedCorrection p role 0 sign theta = 0 := if_pos (.inr rfl)

theorem speedCorrection_eq (p : Params) (role : Role) (wEff : Nat) (sign theta : Int) :
    speedCorrection p role wEff sign theta =
      let e := sign * theta
      let e' := if e.natAbs ≤ p.deadband then 0 else if 0 < e then e - p.deadband else e + p.deadband
      let raw := (e' * p.gain).tdiv 100
      let limit : Int := (p.vmax * p.reserve / 1000 : Nat)
      if role = .endNode ∨ wEff = 0 then 0 else if limit < raw then limit else if raw < -limit then -limit else raw := by
  rw [speedCorrection, deadbandError_eq, clampTo_eq]
  rfl

theorem demandSpeed_of_over {vmax vff : Nat} {dv : Int} (h : (vmax : Int) < vff + dv) : demandSpeed vmax vff dv = vmax :=
  if_pos h

theorem demandSpeed_of_not_over {vmax vff : Nat} {dv : Int} (h : vff + dv ≤ (vmax : Int)) :
    demandSpeed vmax vff dv = ((vff : Int) + dv).toNat := if_neg (Int.not_lt.2 h)

/-- Steps 1 to 6 when RADIUS and VMAX are set (R69). -/
theorem motionSteps_of_complete {p : Params} (radius : p.radius ≠ 0) (vmax : p.vmax ≠ 0) (role : Role)
    (omega ceiling own : Nat) (chainOpen : Bool) (sign theta : Int) :
    motionSteps p role omega ceiling own chainOpen sign theta =
      let wEff := effectiveRate omega ceiling own chainOpen
      let vff := linearSpeed wEff p.radius
      let dv := speedCorrection p role wEff sign theta
      { candidate := candidateDemand (demandSpeed p.vmax vff dv) p.vmax
        contribution := min (capabilityCap p (linearSpeed omega p.radius)) own
        overSpeed := decide ((vff : Int) + dv > (p.vmax : Int))
        underSpeed := decide ((vff : Int) + dv < 0)
        nocap := decide (linearSpeed omega p.radius = 0) } :=
  if_pos (decide_eq_true ⟨radius, vmax⟩)

theorem motionSteps_not_over_and_under (p : Params) (role : Role) (omega ceiling own : Nat) (chainOpen : Bool)
    (sign theta : Int) : ((motionSteps p role omega ceiling own chainOpen sign theta).overSpeed
      && (motionSteps p role omega ceiling own chainOpen sign theta).underSpeed) = false := by
  unfold motionSteps
  split
  · simp only [Bool.and_eq_false_imp, decide_eq_true_eq, decide_eq_false_iff_not]
    omega
  · rfl

/-- At rest the speed of step 4 is 0, and UNDER is not raised (R70, R74). -/
theorem motionSteps_underSpeed_of_stopped {p : Params} {omega ceiling own : Nat} {chainOpen : Bool}
    (stopped : effectiveRate omega ceiling own chainOpen = 0) (role : Role) (sign theta : Int) :
    (motionSteps p role omega ceiling own chainOpen sign theta).underSpeed = false := by
  unfold motionSteps
  split
  · simp [stopped, linearSpeed_zero, speedCorrection_of_stopped]
  · rfl

/-- The smallest VMAX with the largest RESERVE still carries 2 thousandths of the largest commanded speed (R77). -/
theorem capabilityCap_ge {p : Params} (range : Params.InRange p) (set : p.vmax ≠ 0) {vCmd : Nat} (h : vCmd ≤ 17452) :
    2 ≤ capabilityCap p vCmd := by
  obtain ⟨low, -⟩ : inRange 100 9999 p.vmax := range.vmax.resolve_left set
  have kept : 500 ≤ 1000 - p.reserve := by
    have high := range.reserve.2
    omega
  have speed : 100 * 500 ≤ p.vmax * (1000 - p.reserve) := Nat.mul_le_mul low kept
  unfold capabilityCap
  split
  · decide
  · next moving =>
    have quotient : 2 ≤ p.vmax * (1000 - p.reserve) / vCmd :=
      (Nat.le_div_iff_mul_le (Nat.pos_of_ne_zero moving)).2 (by omega)
    exact le_min (by decide) quotient

theorem Params.InRange.radius_le {p : Params} (range : Params.InRange p) : p.radius ≤ 9999 := by
  obtain unset | ⟨-, high⟩ := range.radius
  · omega
  · exact high

/-- Settles O26: the steps' formulas, their bounds, and what stage 4 settles from them. -/
theorem motionStepsFollowFormulas : Obligations.MotionStepsFollowFormulas := by
  refine ⟨?_, ?_, ?_⟩
  · intro p role omega ceiling own chainOpen s theta radius vmax
    have steps := motionSteps_of_complete radius vmax role omega ceiling own chainOpen s theta
    simp only [speedCorrection_eq] at steps
    intro m w e e' raw limit dv v vcmd
    have candidate : m.candidate = candidateDemand (demandSpeed p.vmax (linearSpeed w p.radius) dv) p.vmax :=
      congrArg MotionResult.candidate steps
    refine ⟨congrArg MotionResult.overSpeed steps, congrArg MotionResult.underSpeed steps,
      congrArg MotionResult.nocap steps, fun above => ?_, fun below => ?_, fun low high => ?_,
      congrArg MotionResult.contribution steps⟩
    · rw [candidate, demandSpeed_of_over above, candidateDemand_self vmax]
    · have stopped : v.toNat = 0 := by omega
      rw [candidate, demandSpeed_of_not_over (by omega), stopped, candidateDemand_zero]
    · rw [candidate, demandSpeed_of_not_over high]
      rfl
  · intro p role omega ceiling own chainOpen s theta range slow m
    have contribution : m.contribution ≤ min 1000 own := motionSteps_contribution_le ..
    exact ⟨motionSteps_candidate_le .., contribution.trans (Nat.min_le_left _ _),
      contribution.trans (Nat.min_le_right _ _), motionSteps_not_over_and_under ..,
      fun stopped => motionSteps_underSpeed_of_stopped stopped role s theta,
      fun set => ⟨capabilityCap_ge range set (linearSpeed_le slow range.radius_le), capabilityCap_le _ _⟩⟩
  · intro f s
    refine ⟨s.stageMotion_c f, s.stageMotion_d f, fun role => ?_, fun r role valid reading => ?_, fun role valid => ?_⟩
    · rw [State.stageMotion_theta, State.isEnd_of_endNode role]
      rfl
    · rw [State.stageMotion_theta, State.isEnd_of_mid role, State.freshAngle_of_reading valid reading]
      rfl
    · rw [State.stageMotion_theta, State.isEnd_of_mid role, s.freshAngle_eq_none_iff.2 (.inl valid)]
      rfl

end Sys2Proof.Machine
end

section
/-! SUPPORT. The Crossing Table's sectors (R143, R145): what an entry covers, the first entry that covers an angle, the lookup
of stage 4 (R66), and the obligation about the sector factor and the own limit (R67, R111). -/

namespace Sys2Proof.Machine

/-! ## Coverage (R143) -/

theorem Sector.covers_of_plain {e : Sector} (plain : e.start < e.stop) (angle : Nat) :
    Sector.covers e angle = true ↔ e.start ≤ angle ∧ angle < e.stop := by
  rw [Sector.covers, if_pos plain, decide_eq_true_iff]

theorem Sector.covers_of_wrapping {e : Sector} (wraps : e.stop < e.start) {angle : Nat} (valid : angle < 36000) :
    Sector.covers e angle = true ↔ e.start ≤ angle ∨ angle < e.stop := by
  rw [Sector.covers, if_neg (Nat.lt_asymm wraps), decide_eq_true_iff, and_iff_left valid]

/-! ## The lookup (R145) -/

theorem findSector_cons_of_covers {angle : Nat} {e : Sector} (h : Sector.covers e angle = true) (i : Nat)
    (es : List Sector) : findSector angle i (e :: es) = some { index := i, entry := e } := if_pos h

theorem findSector_cons_of_not_covers {angle : Nat} {e : Sector} (h : Sector.covers e angle = false) (i : Nat)
    (es : List Sector) : findSector angle i (e :: es) = findSector angle (i + 1) es := if_neg (by simp [h])

theorem findSector_eq_none_iff {angle i : Nat} {es : List Sector} :
    findSector angle i es = none ↔ ∀ e ∈ es, Sector.covers e angle = false := by
  induction es generalizing i with
  | nil => simp [findSector]
  | cons e es ih => cases covered : Sector.covers e angle <;> simp [findSector, covered, ih]

theorem le_index_of_findSector {angle i : Nat} {es : List Sector} {h : LookupHit} (found : findSector angle i es = some h) :
    i ≤ h.index := by
  induction es generalizing i with
  | nil => simp [findSector] at found
  | cons e es ih =>
    cases covered : Sector.covers e angle
    · rw [findSector_cons_of_not_covers covered] at found
      exact Nat.le_of_succ_le (ih found)
    · rw [findSector_cons_of_covers covered] at found
      obtain rfl := Option.some.inj found
      exact Nat.le_refl i

/-- The search from index `i` finds the entry that is first to cover the angle, at its place counted from `i`. -/
theorem findSector_eq_some_iff {angle i k : Nat} {es : List Sector} {hit : Sector} :
    findSector angle i es = some { index := i + k, entry := hit } ↔ es[k]? = some hit ∧ Sector.covers hit angle = true
      ∧ ∀ j e, j < k → es[j]? = some e → Sector.covers e angle = false := by
  induction es generalizing i k with
  | nil => simp [findSector]
  | cons first es ih =>
    cases covered : Sector.covers first angle
    · rw [findSector_cons_of_not_covers covered]
      cases k with
      | zero =>
        refine ⟨fun found => absurd (le_index_of_findSector found) (by simp), fun ⟨here, covers, _⟩ => ?_⟩
        obtain rfl := Option.some.inj here
        rw [covered] at covers
        exact absurd covers (by decide)
      | succ k =>
        have before : (∀ j e, j < k + 1 → (first :: es)[j]? = some e → Sector.covers e angle = false)
            ↔ ∀ j e, j < k → es[j]? = some e → Sector.covers e angle = false := by
          refine ⟨fun all j e lt => all (j + 1) e (by omega), fun all j e lt there => ?_⟩
          cases j with
          | zero => exact Option.some.inj there ▸ covered
          | succ j => exact all j e (by omega) there
        rw [show i + (k + 1) = i + 1 + k by omega, ih, before, List.getElem?_cons_succ]
    · rw [findSector_cons_of_covers covered]
      cases k with
      | zero =>
        simp only [Nat.add_zero, List.getElem?_cons_zero, Option.some.injEq, LookupHit.mk.injEq, true_and]
        exact ⟨fun same => ⟨same, same ▸ covered, by simp⟩, fun all => all.1⟩
      | succ k =>
        refine ⟨fun same => by simp at same, fun ⟨_, _, before⟩ => ?_⟩
        rw [before 0 first (by omega) rfl] at covered
        exact absurd covered (by decide)

theorem lookupIn_eq_some_iff {es : List Sector} {angle : Nat} {h : LookupHit} :
    lookupIn es angle = some h ↔ es[h.index]? = some h.entry ∧ Sector.covers h.entry angle = true
      ∧ ∀ j e, j < h.index → es[j]? = some e → Sector.covers e angle = false := by
  rw [← findSector_eq_some_iff (i := 0), Nat.zero_add]
  rfl

/-! ## The lookup of stage 4 (R66) -/

theorem State.lookupAngle_table_congr {s t : State} (h : t.table = s.table) (f : Frame) :
    (t.lookupAngle f).table = (s.lookupAngle f).table := by
  unfold State.lookupAngle State.activeBank
  rw [h]
  split
  · rfl
  · exact h

/-- Of the Crossing Table stage 4 writes the lookup and its angle alone. -/
theorem State.stageMotion_table (s : State) (f : Frame) : (s.stageMotion f).table = (s.lookupAngle f).table := by
  rw [← State.lookupAngle_table_congr
    (t := (s.beginMotion f).withDemand { (s.beginMotion f).demand with causes := Conditions.none }) (by simp)]
  simp [State.stageMotion_eq, State.requested, State.computing, State.inputStep]

/-! ## The limits (R66, R67, R111) -/

theorem State.ownLimit_eq (s : State) : s.ownLimit = min s.sectorFactor (min
    (if hasEvent s.events.flags .stall = true ∧ s.ctrl.node ≠ .tripped then 0 else 1000) s.wheel.drag) := rfl

/-- Settles O27: the coverage by the two forms of an entry, the lookup by the order of the list, the factor by the hit. -/
theorem sectorLimitsTower : Obligations.SectorLimitsTower := by
  refine ⟨fun e angle valid => ⟨fun plain => Sector.covers_of_plain plain angle,
    fun wraps => Sector.covers_of_wrapping wraps valid⟩, fun es angle => ⟨findSector_eq_none_iff, fun h =>
    lookupIn_eq_some_iff⟩, fun f s => ⟨fun valid => ?_, fun invalid => ?_⟩, fun s => ⟨fun none => ?_,
    fun h hit passes => ?_, fun h hit halt stops => ?_, s.ownLimit_eq⟩⟩
  · rw [State.stageMotion_table, State.lookupAngle, pivotValid, if_pos (decide_eq_true valid)]
    rfl
  · rw [State.stageMotion_table, State.lookupAngle, pivotValid, if_neg (by simpa using invalid)]
  · simp [State.sectorFactor, none]
  · have notStopped : ¬(h.entry.action = .halt ∧ s.slot.haltPass = false) := fun ⟨halt, stops⟩ =>
      passes.elim (fun other => other halt) (fun pass => by simp [stops] at pass)
    simp [State.sectorFactor, hit, notStopped]
  · simp [State.sectorFactor, hit, halt, stops]

end Sys2Proof.Machine
end

section
/-! SUPPORT. The joint angle, its duties and its range (R92, R93), the range of the measured speed (R114), the edges on
JOINT at a released MID node (R90 to R92), and the obligations about them. -/

namespace Sys2Proof.Machine

/-! ## The joint angle (R92, R93) -/

theorem readingValid_iff {p : Params} {r : Reading} : readingValid p r = true ↔
    inRange p.jointPeriodMin p.jointPeriodMax r.period ∧ inRange 500 9500 r.duty := by
  simp only [readingValid, inRange, decide_eq_true_eq, and_assoc]

/-- At a whole multiple `k` of 4500 off the middle duty nothing is truncated. -/
theorem jointAngle_of_exact {p : Params} {r : Reading} {k : Int} (h : (r.duty : Int) - 5000 = 4500 * k) :
    jointAngle p r = k * p.jointSpan + p.jointOffset := by
  rw [jointAngle, h, Int.mul_assoc, Int.mul_tdiv_cancel_left _ (by decide)]

/-- A duty within 4500 of the middle turns the joint by JOINT_SPAN at most, offset aside. -/
theorem jointAngle_sub_offset_natAbs_le (p : Params) {r : Reading} (h : ((r.duty : Int) - 5000).natAbs ≤ 4500) :
    (jointAngle p r - p.jointOffset).natAbs ≤ p.jointSpan := by
  have turned : jointAngle p r - p.jointOffset = (((r.duty : Int) - 5000) * p.jointSpan).tdiv 4500 :=
    Int.add_sub_cancel _ _
  rw [turned, Int.natAbs_tdiv, Int.natAbs_mul, Int.natAbs_natCast]
  exact Nat.div_le_of_le_mul (Nat.mul_le_mul_right _ h)

theorem jointAngle_range {p : Params} {r : Reading} (range : Params.InRange p) (valid : readingValid p r = true) :
    -3300 ≤ jointAngle p r ∧ jointAngle p r ≤ 3300 := by
  obtain ⟨-, dutyLow, dutyHigh⟩ := readingValid_iff.1 valid
  have turned := jointAngle_sub_offset_natAbs_le p (r := r) (by omega)
  have span := range.jointSpan.2
  obtain ⟨offsetLow, offsetHigh⟩ := range.jointOffset
  omega

/-! ## The measured speed (R114) -/

theorem Params.InRange.teeth_ge {p : Params} (range : Params.InRange p) : 8 ≤ p.teeth := by
  have teeth := range.teeth
  omega

/-- The widest wheel with the fewest teeth, one tick per tooth. -/
theorem measuredSpeed_le {p : Params} (range : Params.InRange p) (period : Nat) (frozen : Bool) :
    measuredSpeed p period frozen ≤ 74992500 := by
  unfold measuredSpeed
  split
  · next moving =>
    have divisor : 8 * 1 ≤ p.teeth * period := Nat.mul_le_mul range.teeth_ge moving.1
    have dividend : p.circumference * 60000 ≤ 9999 * 60000 := Nat.mul_le_mul_right _ range.circumference.2
    exact Nat.div_le_div dividend divisor (by decide)
  · exact Nat.zero_le _

/-- Settles O29: the edges of the angle by exact division, its range by that of JOINT_SPAN and JOINT_OFFSET. -/
theorem sensorFormulas : Obligations.SensorFormulas := by
  refine ⟨fun p r => ⟨rfl, fun duty => ?_, fun duty => ?_, fun duty => ?_, jointAngle_range⟩,
    fun p period frozen => ⟨fun least most moves => if_pos ⟨least, most, moves⟩, fun still => if_neg ?_,
      fun range => measuredSpeed_le range period frozen⟩⟩
  · rw [jointAngle_of_exact (k := 0) (by omega)]
    omega
  · rw [jointAngle_of_exact (k := -1) (by omega)]
    omega
  · rw [jointAngle_of_exact (k := 1) (by omega)]
    omega
  · rintro ⟨least, most, moves⟩
    obtain zero | long | frozen := still
    · omega
    · omega
    · exact absurd (moves.symm.trans frozen) (by decide)

/-! ## The edges on JOINT (R90 to R92) -/

theorem State.jointSampled_of_mid {s : State} (released : s.released = true) (mid : s.power.role = .mid) :
    s.jointSampled = true := by
  simp [State.jointSampled, released, State.isEnd_of_mid mid]

theorem State.fallingEdge_of_unarmed {s : State} (h : s.joint.measurement = .unarmed) (n : Nat) :
    s.fallingEdge n = s := by
  simp [State.fallingEdge, h]

theorem State.fallingEdge_of_high {s : State} {p h : Nat} (m : s.joint.measurement = .measuring p h true) (n : Nat) :
    s.fallingEdge n = s.withJoint { s.joint with
      measurement := .measuring (advanceCount p n) (advanceCount h n) false } := by
  simp [State.fallingEdge, m]

theorem State.risingEdge_of_low {s : State} {p h : Nat} (m : s.joint.measurement = .measuring p h false) (n : Nat) :
    s.risingEdge n = s.completeReading (advanceCount p n) h := by
  simp [State.risingEdge, m]

theorem exec_jointMeasurementStart_of_unarmed {s : State} (sampled : s.jointSampled = true)
    (h : s.joint.measurement = .unarmed) : exec .jointMeasurementStart s = .next s.startMeasurement :=
  congrArg _ (if_pos ⟨sampled, h⟩)

theorem exec_jointFallingEdge {s : State} (sampled : s.jointSampled = true) (n : Nat) :
    exec (.jointFallingEdge n) s = .next (s.fallingEdge n) :=
  congrArg _ (if_pos sampled)

theorem exec_jointReadingComplete {s : State} (sampled : s.jointSampled = true) (n : Nat) :
    exec (.jointReadingComplete n) s = .next (s.risingEdge n) :=
  congrArg _ (if_pos sampled)

/-- Settles O30: at a released MID node the pin is sampled, and each edge acts by the measurement it meets. -/
theorem jointEdgesMeasure : Obligations.JointEdgesMeasure := by
  intro s released mid
  have sampled := State.jointSampled_of_mid released mid
  refine ⟨exec_jointMeasurementStart_of_unarmed sampled, fun n unarmed => ?_, fun p h n high => ?_, fun p h n low => ?_⟩
  · rw [exec_jointFallingEdge sampled, State.fallingEdge_of_unarmed unarmed]
  · rw [exec_jointFallingEdge sampled, State.fallingEdge_of_high high]
    rfl
  · rw [exec_jointReadingComplete sampled, State.risingEdge_of_low low]
    rfl

end Sys2Proof.Machine
end

section
/-! SUPPORT. The Wheel Monitor by its events: a tooth and the drag evaluation (R107, R114 to R116), STALL (R109, R110,
R137), the 1 ms tick (R105, R106, R192), and the obligations about them. -/

namespace Sys2Proof.Machine

/-! ## The drag evaluation (R114 to R116) -/

theorem State.expectedSpeed_eq (s : State) : s.expectedSpeed =
    if s.params.driveMode = .duty then s.params.vmax else s.params.vmax * s.drive.rateRef / 1000 := by
  unfold State.expectedSpeed
  cases s.params.driveMode <;> rfl

theorem WheelBlock.speedValid_iff (w : WheelBlock) :
    WheelBlock.speedValid w = true ↔ (1 ≤ w.period ∧ w.period ≤ 65534) ∧ w.frozen = false := by
  simp [WheelBlock.speedValid]

/-- The drag evaluation is made (R116). -/
def State.DragDue (s : State) : Prop :=
  WheelBlock.speedValid s.wheel = true ∧ s.drive.st = .running ∧ 0 < s.expectedSpeed

theorem State.evaluateDrag_of_not_due {s : State} (h : ¬s.DragDue) : s.evaluateDrag = s := if_neg h

theorem State.evaluateDrag_of_fast {s : State} (due : s.DragDue)
    (fast : s.params.dragThreshold ≤ dragRatio s.speed s.expectedSpeed) :
    s.evaluateDrag = s.withWheel { s.wheel with drag := 1000 } :=
  (if_pos due).trans (if_neg (Nat.not_lt.2 fast))

theorem State.evaluateDrag_of_slow {s : State} (due : s.DragDue)
    (slow : dragRatio s.speed s.expectedSpeed < s.params.dragThreshold) : s.evaluateDrag =
      (s.withWheel { s.wheel with drag := dragRatio s.speed s.expectedSpeed }).raise .drag :=
  (if_pos due).trans (if_pos slow)

/-! ## A tooth (R107) -/

/-- The interval between two teeth closed: its count is the period, and the next count begins (R107). -/
def State.intervalClosed (s : State) : State :=
  s.withWheel { s.wheel with period := s.wheel.counter, counter := 0 }

theorem State.takeTooth_of_frozen {s : State} (frozen : s.wheel.frozen = true) : s.takeTooth = s := if_pos frozen

theorem State.takeTooth_of_unarmed {s : State} (thawed : s.wheel.frozen = false) (unarmed : s.wheel.armed = false) :
    s.takeTooth = s.withWheel { s.wheel with armed := true, counter := 0 } := by
  simp [State.takeTooth, thawed, unarmed]

theorem State.takeTooth_of_zero {s : State} (thawed : s.wheel.frozen = false) (armed : s.wheel.armed = true)
    (zero : s.wheel.counter = 0) : s.takeTooth = s := by
  simp [State.takeTooth, thawed, armed, zero]

theorem State.takeTooth_of_interval {s : State} (thawed : s.wheel.frozen = false) (armed : s.wheel.armed = true)
    (counted : s.wheel.counter ≠ 0) : s.takeTooth = s.intervalClosed.evaluateDrag := by
  simp [State.takeTooth, State.intervalClosed, thawed, armed, counted]

/-- The tooth that closes an interval is followed by the drag evaluation of its speed when the count did not run out, the
drive is RUNNING and a speed is expected. -/
theorem State.intervalClosed_dragDue_iff {s : State} (thawed : s.wheel.frozen = false) (counted : s.wheel.counter ≠ 0) :
    s.intervalClosed.DragDue ↔ s.wheel.counter ≤ 65534 ∧ s.drive.st = .running ∧ 0 < s.expectedSpeed := by
  have valid : WheelBlock.speedValid s.intervalClosed.wheel = true ↔ s.wheel.counter ≤ 65534 := by
    rw [WheelBlock.speedValid_iff]
    exact ⟨fun h => h.1.2, fun least => ⟨⟨Nat.one_le_iff_ne_zero.2 counted, least⟩, thawed⟩⟩
  exact and_congr_left' valid

theorem State.intervalClosed_dragRatio {s : State} (thawed : s.wheel.frozen = false) :
    dragRatio s.intervalClosed.speed s.intervalClosed.expectedSpeed =
      dragRatio (measuredSpeed s.params s.wheel.counter false) s.expectedSpeed := by
  rw [← thawed]
  rfl

/-- The qualified level and the last sample as a tooth leaves them (log 21). -/
def State.toothSeen (s : State) : State := s.withWheel { s.wheel with level := some .high, lastSample := some .high }

theorem exec_wheelTooth {s : State} (released : s.released = true) :
    exec .wheelTooth s = .next s.toothSeen.takeTooth := congrArg _ (if_pos released)

/-- Settles O33: a tooth by the flags it finds, and after an interval the drag evaluation by its ratio. -/
theorem toothClosesInterval : Obligations.ToothClosesInterval := by
  intro s released high
  have seen : exec .wheelTooth s = .next high.takeTooth := exec_wheelTooth released
  rw [seen]
  refine ⟨fun frozen => ?_, fun thawed unarmed => ?_, fun thawed armed zero => ?_, fun thawed armed counted => ?_⟩
  · rw [State.takeTooth_of_frozen (s := high) frozen]
  · rw [State.takeTooth_of_unarmed (s := high) thawed unarmed]
  · rw [State.takeTooth_of_zero (s := high) thawed armed zero]
  · intro speed expected ratio evaluated closed
    have expects : high.expectedSpeed = expected := high.expectedSpeed_eq
    have due : high.intervalClosed.DragDue ↔ evaluated := by
      rw [State.intervalClosed_dragDue_iff (s := high) thawed counted, expects]
      rfl
    have drags : dragRatio high.intervalClosed.speed high.intervalClosed.expectedSpeed = ratio := by
      rw [State.intervalClosed_dragRatio (s := high) thawed, expects]
      rfl
    rw [State.takeTooth_of_interval (s := high) thawed armed counted]
    refine ⟨fun passed => ?_, fun made fast => ?_, fun made slow => ?_⟩
    · rw [State.evaluateDrag_of_not_due (due.not.2 passed)]
      rfl
    · rw [State.evaluateDrag_of_fast (due.2 made) (by rw [drags]; exact fast)]
      rfl
    · rw [State.evaluateDrag_of_slow (due.2 made) (by rw [drags]; exact slow), drags]
      rfl

/-! ## STALL (R109, R110, R137) -/

theorem exec_stall {s : State} (released : s.released = true) : exec .stall s = .next s.stallTest :=
  congrArg _ (if_pos released)

theorem State.raiseStall_eq (s : State) : s.raiseStall =
    let x := s.stalled.tripRequestIf s.params.tripEnables.stall .stall
    if x.ctrl.node = .manual ∧ DriveState.energizes x.drive.st = true then
      (x.withDrive { x.drive with lockout := true }).endJog
    else x := rfl

/-- STALL in a serving state with HAND inactive is its trip request, when it is trip-enabled (R110). -/
theorem State.raiseStall_eq_of_serving {s : State} (enabled : s.params.tripEnables.stall = true)
    (hand : s.handActive = false) (serving : NodeState.serving s.ctrl.node = true) :
    s.raiseStall = s.stalled.tripRequest .stall := by
  have request : s.stalled.tripRequestIf s.params.tripEnables.stall .stall = s.stalled.tripRequest .stall :=
    if_pos enabled
  obtain e | ⟨manual, -⟩ := s.raiseStall_cases
  · rw [e, request]
  · rw [request, (State.tripRequest_trips (s := s.stalled) .stall serving hand).1] at manual
    exact absurd manual (by simp)

/-- STALL that is not trip-enabled requests nothing, and outside LOCAL leaves the drive and the demand (R110). -/
theorem State.raiseStall_of_not_enabled {s : State} (disabled : s.params.tripEnables.stall = false) :
    s.raiseStall.ctrl = s.ctrl
      ∧ (s.ctrl.node ≠ .manual → s.raiseStall.drive = s.drive ∧ s.raiseStall.demand = s.demand) := by
  have request : s.stalled.tripRequestIf s.params.tripEnables.stall .stall = s.stalled := by
    rw [disabled]
    rfl
  obtain e | ⟨manual, e⟩ := s.raiseStall_cases <;> rw [request] at e
  · rw [e]
    exact ⟨rfl, fun _ => ⟨rfl, rfl⟩⟩
  · rw [request] at manual
    exact ⟨by rw [e, State.endJog_ctrl]; rfl, fun other => absurd manual other⟩

/-- In LOCAL a trip request writes the trip record at most (R51, R53). -/
theorem State.tripRequestIf_of_manual {s : State} (node : s.ctrl.node = .manual) (b : Bool) (cause : TripCause) :
    ∃ r, s.tripRequestIf b cause = s.withTrip r := by
  cases b with
  | false => exact ⟨s.ctrl.trip, rfl⟩
  | true =>
    have request : s.tripRequestIf true cause = s.tripRequest cause := rfl
    rw [request]
    cases taken : TripCause.takenInLocal cause with
    | false => exact ⟨s.ctrl.trip, State.tripRequest_of_manual_passed node taken⟩
    | true =>
      cases trip : s.ctrl.trip with
      | none => exact ⟨_, State.tripRequest_of_manual_new node taken trip⟩
      | some r => exact ⟨_, State.tripRequest_of_manual_counted node taken trip⟩

/-- A jog that ends under the lockout does not begin again, even where STOP_TIME is 0 (R133, R137). -/
theorem State.endJog_rests_of_lockout {s : State} (node : s.ctrl.node = .manual) (lockout : s.drive.lockout = true)
    (jog : s.drive.jog = true) : DriveState.energizes s.endJog.drive.st = false := by
  have locked : s.haltMotor.driveOff.startJogIfDue = s.haltMotor.driveOff := by
    simp [State.startJogIfDue, lockout]
  have arrives : s.haltMotor.arriveOff = s.haltMotor.driveOff := by
    rw [State.arriveOff, State.startIfDue_of_not_due _ (by simp [node]), State.takeReady_of_not_starting _ (by simp),
      locked]
  unfold State.endJog State.enterStopping
  split
  · split
    · rw [arrives]
      rfl
    · rfl
  · next rests => simpa [jog] using rests

/-- STALL ends a jog with the lockout set (R110, R137). -/
theorem State.raiseStall_ends_jog {s : State} (node : s.ctrl.node = .manual) (jog : s.drive.jog = true)
    (on : DriveState.energizes s.drive.st = true) :
    DriveState.energizes s.raiseStall.drive.st = false ∧ s.raiseStall.drive.lockout = true := by
  obtain ⟨r, request⟩ := State.tripRequestIf_of_manual (s := s.stalled) node s.params.tripEnables.stall .stall
  have ends : s.raiseStall =
      ((s.stalled.withTrip r).withDrive { s.drive with lockout := true }).endJog := by
    simp only [State.raiseStall_eq, request]
    exact if_pos ⟨node, on⟩
  rw [ends]
  exact ⟨State.endJog_rests_of_lockout node rfl jog, by simp⟩

/-- Settles O34: the stall test by the threshold, and what STALL does by the node and its trip-enable bit. -/
theorem stallFreezesAndTrips : Obligations.StallFreezesAndTrips := by
  intro s released threshold
  rw [exec_stall released]
  refine ⟨fun below => by rw [State.stallTest_of_below below], fun thawed reached => ?_⟩
  rw [State.stallTest_of_reached thawed reached]
  refine ⟨s.raiseStall, rfl, s.raiseStall_wheel, s.raiseStall_hasEvent, fun enabled serving hand => ?_,
    State.raiseStall_of_not_enabled, State.raiseStall_ends_jog, s.raiseStall_frame,
    s.stalled_onlyRaises.trans s.raiseStall_onlyRaises_stalled⟩
  have serves := (NodeState.serving_iff _).2 serving
  obtain ⟨ctrl, stopped, -⟩ := State.tripRequest_trips (s := s.stalled) .stall serves hand
  rw [State.raiseStall_eq_of_serving enabled hand serves]
  exact ⟨ctrl, stopped.energizes, stopped⟩

/-! ## The tick (R105, R106, R109, R192) -/

theorem DriveState.energizes_iff (x : DriveState) : DriveState.energizes x = true ↔ x = .starting ∨ x = .running := by
  cases x <;> simp [DriveState.energizes]

theorem State.wheelEnergized_iff (s : State) : s.wheelEnergized = true ↔
    (s.drive.st = .starting ∨ s.drive.st = .running) ∧ (s.params.driveMode = .duty ∨ 0 < s.drive.rateRef) := by
  simp [State.wheelEnergized, DriveState.energizes_iff]

/-- A tooth is the second high sample in a row at a qualified low level (R105). -/
theorem toothFound_iff (w : WheelBlock) (sample : Level) : toothFound w sample = true ↔
    w.level = some .low ∧ w.lastSample = some .high ∧ sample = .high := by
  simp only [toothFound, qualifiedLevel, Bool.and_eq_true, decide_eq_true_eq]
  refine and_congr_right fun low => ?_
  split
  · next same => simp [same]
  · next differs =>
    refine ⟨fun high => by simp [low] at high, fun ⟨last, high⟩ => absurd (by rw [last, high]) differs⟩

/-- The counts of the node, the sample and the tick counter after a tick, before the tooth and the stall test (log 35). -/
def State.ticked (s : State) (sample : Level) : State :=
  s.tickReference.withWheel (WheelBlock.tick s.wheel sample s.wheelEnergized)

theorem exec_wheelTick {s : State} (released : s.released = true) (sample : Level) : exec (.wheelTick sample) s =
    .next (if toothFound s.wheel sample then (s.ticked sample).takeTooth else s.ticked sample).stallTest :=
  congrArg _ (if_pos released)

theorem exec_wheelTick_of_tooth {s : State} {sample : Level} (released : s.released = true)
    (tooth : toothFound s.wheel sample = true) :
    exec (.wheelTick sample) s = .next (s.ticked sample).takeTooth.stallTest := by
  rw [exec_wheelTick released, if_pos tooth]

theorem exec_wheelTick_of_no_tooth {s : State} {sample : Level} (released : s.released = true)
    (noTooth : ¬toothFound s.wheel sample = true) :
    exec (.wheelTick sample) s = .next (s.ticked sample).stallTest := by
  rw [exec_wheelTick released, if_neg noTooth]

/-- Settles O35: the tick's counts, then the tooth it finds and the stall test. -/
theorem tickCountsEnergizedTime : Obligations.TickCountsEnergizedTime := by
  intro sample s released energized ticked qualified counted tooth threshold u
  have found : toothFound s.wheel sample = true ↔ tooth := toothFound_iff s.wheel sample
  have counter : (if s.wheelEnergized then advanceCount s.wheel.counter 1 else s.wheel.counter) = counted :=
    ite_congr (propext s.wheelEnergized_iff) (fun _ => rfl) fun _ => rfl
  have wheel : WheelBlock.tick s.wheel sample s.wheelEnergized =
      { s.wheel with level := qualified, lastSample := some sample, counter := counted } := by
    rw [← counter]
    rfl
  have counts : s.ticked sample = u := by
    rw [State.ticked, wheel]
    rfl
  rw [← counts]
  refine ⟨fun present => exec_wheelTick_of_tooth released (found.2 present), fun absent thawed reached => ?_,
    fun absent below => ?_⟩ <;> rw [exec_wheelTick_of_no_tooth released (found.not.2 absent), counts]
  · rw [State.stallTest_of_reached (s := u) thawed reached]
  · rw [State.stallTest_of_below (s := u) below]

end Sys2Proof.Machine
end

section
/-! SUPPORT. The starts of the drive (R123 to R125, R128, R133, R136): a DUTY period with its on-time and SHORT, a RATE
start, DRDY taken with them; and the obligations about the end of the rest, the end of STOP_TIME and the hand-over. -/

namespace Sys2Proof.Machine

/-! ## A DUTY period (R123, R124) -/

theorem State.rawOnTime_eq (s : State) : rawOnTime s.demand.d s.params.dutyPeriod = s.plainOnTime := rfl

theorem State.onTimeShort_iff (s : State) : onTimeShort s.plainOnTime s.params.minOn = true ↔ s.OnTimeShort := by
  simp [onTimeShort, State.OnTimeShort]

/-- The on-time of a period: short of MIN_ON it becomes 0 or MIN_ON, whichever is nearer (R124). -/
theorem State.dutyOnTime_eq (s : State) : (¬s.OnTimeShort → dutyOnTime s.plainOnTime s.params.minOn = s.plainOnTime)
    ∧ (s.OnTimeShort → dutyOnTime s.plainOnTime s.params.minOn =
      if s.params.minOn ≤ 2 * s.plainOnTime then s.params.minOn else 0) := by
  refine ⟨fun long => ?_, fun short => ?_⟩
  · rw [dutyOnTime, if_neg (s.onTimeShort_iff.not.2 long)]
  · rw [dutyOnTime, if_pos (s.onTimeShort_iff.2 short)]
    exact if_congr (by omega) rfl rfl

/-- The drive with the d, the direction, the on-time and the period timer of a new period (R123). -/
def State.dutyTimed (s : State) : DriveBlock :=
  { s.drive with
    rateRef := 0
    latchedD := s.demand.d
    onTime := dutyOnTime s.plainOnTime s.params.minOn
    dir := s.drive.dirRecord
    period := some (Timer.tenths s.params.dutyPeriod) }

/-- The drive at the start of a period: RESTING when the on-time is 0, else STARTING (R123, R124). -/
def State.dutyDrive (s : State) : DriveBlock :=
  if s.dutyTimed.onTime = 0 then { s.dutyTimed with st := .resting, phase := none }
  else { s.dutyTimed with st := .starting, phase := some (Timer.tenths s.params.startTimeout) }

theorem State.dutyDrive_waits (s : State) :
    (s.dutyDrive.st = .resting ∨ s.dutyDrive.st = .starting) ∧ s.dutyDrive.rateRef = 0 := by
  unfold State.dutyDrive
  split
  · exact ⟨.inl rfl, rfl⟩
  · exact ⟨.inr rfl, rfl⟩

theorem State.startDutyPeriod_eq (s : State) : s.startDutyPeriod =
    (s.raiseConditionIf (onTimeShort s.plainOnTime s.params.minOn) .short).withDrive s.dutyDrive := by
  have drive := s.raiseConditionIf_drive (onTimeShort s.plainOnTime s.params.minOn) .short
  have params := s.raiseConditionIf_params (onTimeShort s.plainOnTime s.params.minOn) .short
  by_cases zero : s.dutyTimed.onTime = 0
  · rw [State.startDutyPeriod, State.dutyDrive, if_pos zero]
    simp only [State.rawOnTime_eq, drive]
    exact if_pos zero
  · rw [State.startDutyPeriod, State.dutyDrive, if_neg zero]
    simp only [State.rawOnTime_eq, drive, State.beginStarting, State.withDrive_params, params]
    exact if_neg zero

theorem State.startDutyPeriod_drive (s : State) : s.startDutyPeriod.drive = s.dutyDrive := by
  rw [State.startDutyPeriod_eq, State.withDrive_drive]

theorem State.startDutyPeriod_of_short {s : State} (short : s.OnTimeShort) :
    s.startDutyPeriod = (s.raiseCondition .short).withDrive s.dutyDrive := by
  rw [State.startDutyPeriod_eq, s.onTimeShort_iff.2 short]
  rfl

/-- Every start of a period is the one of R123 to R125, DRDY left aside. -/
theorem State.startDutyPeriod_dutyStarted (s : State) : s.DutyStarted s.startDutyPeriod false := by
  obtain ⟨plain, nearer⟩ := s.dutyOnTime_eq
  have timed : s.dutyDrive.latchedD = s.demand.d ∧ s.dutyDrive.dir = s.drive.dirRecord
      ∧ s.dutyDrive.period = some (Timer.tenths s.params.dutyPeriod) ∧ s.dutyDrive.onTime = s.dutyTimed.onTime := by
    unfold State.dutyDrive
    split <;> exact ⟨rfl, rfl, rfl, rfl⟩
  obtain ⟨latchedD, direction, period, onTime⟩ := timed
  have rests (h : s.dutyTimed.onTime = 0) : s.dutyDrive.st = .resting ∧ s.dutyDrive.phase = none := by
    rw [State.dutyDrive, if_pos h]
    exact ⟨rfl, rfl⟩
  have starts (h : s.dutyTimed.onTime ≠ 0) : s.dutyDrive.st = .starting
      ∧ s.dutyDrive.phase = some (Timer.tenths s.params.startTimeout) := by
    rw [State.dutyDrive, if_neg h]
    exact ⟨rfl, rfl⟩
  have raises (h : s.OnTimeShort) : s.startDutyPeriod.demand.causes.short = true
      ∧ s.startDutyPeriod.demand.sticky.short = true
      ∧ hasEvent s.startDutyPeriod.events.flags .condition = true := by
    rw [State.startDutyPeriod_of_short h]
    exact ⟨rfl, rfl, State.hasEvent_raise_self _ _⟩
  unfold State.DutyStarted
  rw [State.startDutyPeriod_drive, onTime]
  exact ⟨latchedD, direction, period, plain, fun short => ⟨nearer short, raises short⟩, rests,
    fun _ ready => absurd ready Bool.false_ne_true, fun runs _ => starts runs, s.startDutyPeriod_frame,
    s.startDutyPeriod_onlyRaises, s.startDutyPeriod_d, s.startDutyPeriod_c⟩

/-! ## A start with what follows it -/

/-- DRDY, when it is active, takes a period that has an on-time to RUNNING (R125). -/
theorem State.DutyStarted.takeReady {s t : State} (h : s.DutyStarted t false) :
    s.DutyStarted t.takeReady s.drdyActive := by
  obtain ⟨latchedD, direction, period, plain, short, rests, -, starts, frame, raises, d, c⟩ := h
  have drdy : t.drdyActive = s.drdyActive :=
    State.drdyActive_congr (frame .table (by decide)) (frame .inputs (by decide))
  obtain ⟨starting, ready, e⟩ | ⟨waits, e⟩ := t.takeReady_cases <;> rw [e]
  · rw [drdy] at ready
    have onTime : t.drive.onTime ≠ 0 := fun zero => by simp [(rests zero).1] at starting
    exact ⟨latchedD, direction, period, plain, short, fun zero => absurd zero onTime, fun _ _ => ⟨rfl, rfl⟩,
      fun _ waits => by simp [ready] at waits, frame.trans (t.enterRunning_frame.mono (by decide)),
      raises.andThen (by simp), d, c⟩
  · rw [drdy] at waits
    refine ⟨latchedD, direction, period, plain, short, rests, fun runs ready => ?_, fun runs _ => starts runs rfl,
      frame, raises, d, c⟩
    exact absurd (starts runs rfl).1 (waits.resolve_right (by simp [ready]))

/-- Of the drive it begins with, a period reads the direction record alone. -/
theorem State.DutyStarted.of_withDrive {s t : State} {x : DriveBlock} {ready : Bool}
    (h : (s.withDrive x).DutyStarted t ready) (dir : x.dirRecord = s.drive.dirRecord) : s.DutyStarted t ready := by
  obtain ⟨latchedD, direction, period, plain, short, rests, runs, starts, frame, raises, d, c⟩ := h
  exact ⟨latchedD, direction.trans dir, period, plain, short, rests, runs, starts,
    ((s.withDrive_frame x).mono (by decide)).trans frame, raises, d, c⟩

theorem State.startIfDue_of_duty {s : State} (run : s.ctrl.node = .run) (demand : 0 < s.demand.d)
    (mode : s.params.driveMode = .duty) : s.startIfDue = s.startDutyPeriod := by
  simp [State.startIfDue, run, demand, mode]

theorem State.startIfDue_of_rate {s : State} (run : s.ctrl.node = .run) (demand : 0 < s.demand.d)
    (mode : s.params.driveMode = .rate) : s.startIfDue = s.startRate := by
  simp [State.startIfDue, run, demand, mode]

theorem State.startIfDue_dutyStarted {s : State} (run : s.ctrl.node = .run) (demand : 0 < s.demand.d)
    (mode : s.params.driveMode = .duty) : s.DutyStarted s.startIfDue false := by
  rw [State.startIfDue_of_duty run demand mode]
  exact s.startDutyPeriod_dutyStarted

/-! ## The end of the wait in RESTING (R127) -/

theorem timeLeft_eq_zero_iff (x : Option Timer) : timeLeft x = 0 ↔ ∀ t, x = some t → t.left = 0 := by
  cases x <;> simp [timeLeft]

/-- The wait in RESTING is over when a timer runs and neither has time left (R127). -/
theorem State.restRunOut_iff (s : State) : s.restRunOut = true ↔ s.drive.st = .resting
    ∧ (s.drive.period.isSome = true ∨ s.drive.phase.isSome = true) ∧ timeLeft s.drive.period = 0
    ∧ timeLeft s.drive.phase = 0 := by
  simp [State.restRunOut, and_assoc]

theorem exec_restingEnd_of_waiting {s : State} {x : Timer} (timer : s.drive.period = some x ∨ s.drive.phase = some x)
    (left : x.left ≠ 0) : exec .restingEnd s = .next s := by
  refine congrArg _ (if_neg fun ⟨_, expired⟩ => ?_)
  obtain ⟨-, -, period, phase⟩ := s.restRunOut_iff.1 expired
  exact left (timer.elim ((timeLeft_eq_zero_iff _).1 period x) ((timeLeft_eq_zero_iff _).1 phase x))

theorem exec_restingEnd_of_expired {s : State} (released : s.released = true) (resting : s.drive.st = .resting)
    (timer : s.drive.period.isSome = true ∨ s.drive.phase.isSome = true)
    (left : ∀ x, s.drive.period = some x ∨ s.drive.phase = some x → x.left = 0) :
    exec .restingEnd s = .next s.endRest :=
  congrArg _ (if_pos ⟨released, s.restRunOut_iff.2 ⟨resting, timer,
    (timeLeft_eq_zero_iff _).2 fun x period => left x (.inl period),
    (timeLeft_eq_zero_iff _).2 fun x phase => left x (.inr phase)⟩⟩)

/-- Settles O39: the rest ends with both timers stopped, and in RUN with d above 0 a period is started from there. -/
theorem restingEndStartsPeriod : Obligations.RestingEndStartsPeriod := by
  intro s released resting timer
  refine ⟨fun ⟨x, runs, left⟩ => exec_restingEnd_of_waiting runs left, fun left => ?_⟩
  rw [exec_restingEnd_of_expired released resting timer left]
  refine ⟨fun idle => ?_, fun run demand mode => ⟨_, rfl, ?_⟩⟩
  · rw [State.endRest, State.startIfDue_of_not_due, State.takeReady_of_not_starting _ (by simp [resting])]
    rintro ⟨run, demand⟩
    exact idle.elim (fun other => other run) fun zero => Nat.ne_of_gt demand zero
  · exact (State.startIfDue_dutyStarted (s := s.withDrive { s.drive with period := none, phase := none }) run demand
      mode).takeReady.of_withDrive rfl

/-! ## The end of STOP_TIME (R133, R136) -/

theorem exec_stopTimeEnd_of_waiting {s : State} {x : Timer} (timer : s.drive.phase = some x) (left : x.left ≠ 0) :
    exec .stopTimeEnd s = .next s :=
  congrArg _ (if_neg fun ⟨_, _, expired⟩ => by simp [timer, timerRunOut, left] at expired)

theorem exec_stopTimeEnd_of_expired {s : State} {x : Timer} (released : s.released = true)
    (stopping : s.drive.st = .stopping) (timer : s.drive.phase = some x) (left : x.left = 0) :
    exec .stopTimeEnd s = .next s.arriveOff :=
  congrArg _ (if_pos ⟨released, stopping, (timerRunOut_iff _).2 ⟨x, timer, left⟩⟩)

/-- In RUN no jog begins at OFF (R133). -/
theorem State.arriveOff_of_run {s : State} (run : s.ctrl.node = .run) :
    s.arriveOff = s.driveOff.startIfDue.takeReady := by
  rw [State.arriveOff, State.startJogIfDue_of_not_manual _ (by simp [run])]

/-- In LOCAL only a jog begins at OFF (R133, R136). -/
theorem State.arriveOff_of_manual {s : State} (manual : s.ctrl.node = .manual) :
    s.arriveOff = s.driveOff.startJogIfDue := by
  rw [State.arriveOff, State.startIfDue_of_not_due _ (by simp [manual]), State.takeReady_of_not_starting _ (by simp)]

theorem State.startJogIfDue_of_lockout {s : State} (h : s.drive.lockout = true) : s.startJogIfDue = s := by
  simp [State.startJogIfDue, h]

@[simp] theorem State.takeReady_dirChange (s : State) : s.takeReady.drive.dirChange = s.drive.dirChange := by
  obtain ⟨-, -, e⟩ | ⟨-, e⟩ := s.takeReady_cases <;> rw [e]
  rfl

@[simp] theorem State.startIfDue_jog (s : State) : s.startIfDue.drive.jog = s.drive.jog := by
  unfold State.startIfDue State.startDutyPeriod State.startRate
  simp only
  (repeat' split) <;> simp

@[simp] theorem State.takeReady_jog (s : State) : s.takeReady.drive.jog = s.drive.jog := by
  obtain ⟨-, -, e⟩ | ⟨-, e⟩ := s.takeReady_cases <;> rw [e]
  rfl

/-- With no start and no jog waiting the drive comes to rest in OFF (R133, R137). -/
theorem State.arriveOff_of_none_waits {s : State} (start : s.ctrl.node ≠ .run ∨ s.demand.d = 0)
    (jog : s.ctrl.node ≠ .manual ∨ s.drive.lockout = true ∨ s.jogSelection = none) : s.arriveOff = s.driveOff := by
  by_cases manual : s.ctrl.node = .manual
  · rw [State.arriveOff_of_manual manual]
    obtain locked | unselected := jog.resolve_left (not_not.2 manual)
    · exact State.startJogIfDue_of_lockout (s := s.driveOff) locked
    · exact State.startJogIfDue_of_unselected (s := s.driveOff) unselected
  · refine State.arriveOff_of_no_start (fun ⟨run, demand⟩ => ?_) (.inl manual)
    exact start.elim (fun other => other run) fun zero => Nat.ne_of_gt demand zero

/-- A RATE start at OFF, by DRDY (R128, R133). -/
theorem State.arriveOff_starts_rate {s : State} (run : s.ctrl.node = .run) (demand : 0 < s.demand.d)
    (mode : s.params.driveMode = .rate) :
    s.arriveOff.drive.dir = s.drive.dirRecord ∧ s.arriveOff.drive.period = none
      ∧ (s.drdyActive = false → s.arriveOff.drive.st = .starting ∧ s.arriveOff.drive.rateRef = 0)
      ∧ (s.drdyActive = true → s.arriveOff.drive.st = .running ∧ s.arriveOff.drive.rateRef = s.demand.d)
      ∧ State.SameOutside [.drive] s s.arriveOff := by
  have arrives : s.arriveOff = s.driveOff.startRate.takeReady := by
    rw [State.arriveOff_of_run run, State.startIfDue_of_rate (s := s.driveOff) run demand mode]
  have frame : State.SameOutside [.drive] s s.driveOff.startRate := s.driveOff_frame.trans s.driveOff.startRate_frame
  have drdy : s.driveOff.startRate.drdyActive = s.drdyActive :=
    State.drdyActive_congr (frame .table (by decide)) (frame .inputs (by decide))
  rw [arrives]
  obtain ⟨-, ready, e⟩ | ⟨waits, e⟩ := s.driveOff.startRate.takeReady_cases <;> rw [e]
  · rw [drdy] at ready
    refine ⟨rfl, rfl, fun waits => by simp [ready] at waits, fun _ => ⟨rfl, ?_⟩,
      frame.trans s.driveOff.startRate.enterRunning_frame⟩
    have mode' : s.driveOff.startRate.params.driveMode = .rate := mode
    simp only [State.enterRunning, State.withDrive_drive, mode']
    rfl
  · rw [drdy] at waits
    exact ⟨rfl, rfl, fun _ => ⟨rfl, rfl⟩, fun ready => absurd rfl (waits.resolve_right (by simp [ready])), frame⟩

/-- Settles O40: at OFF the start that waits is made, which in RUN is a period or a RATE start and in LOCAL a jog. -/
theorem stopTimeEndStartsWaitingDrive : Obligations.StopTimeEndStartsWaitingDrive := by
  intro x s released stopping timer
  refine ⟨fun left => exec_stopTimeEnd_of_waiting timer left, fun left => ?_⟩
  rw [exec_stopTimeEnd_of_expired released stopping timer left]
  refine ⟨fun start jog => ?_, fun run demand mode => ⟨_, rfl, ?_⟩, fun run demand mode => ⟨_, rfl, ?_⟩,
    fun dir manual free selected => ⟨_, rfl, ?_⟩⟩
  · rw [State.arriveOff_of_none_waits start jog]
    rfl
  · have started := (State.startIfDue_dutyStarted (s := s.driveOff) run demand mode).takeReady
    rw [State.arriveOff_of_run run]
    exact ⟨started.of_withDrive rfl, by simp, by simp⟩
  · exact State.arriveOff_starts_rate run demand mode
  · have begun : s.JogBegun dir s.driveOff.startJogIfDue :=
      (State.startJogIfDue_begins (s := s.driveOff) manual rfl free selected).of_frame s.driveOff_frame
    rw [State.arriveOff_of_manual manual]
    exact ⟨begun.dir, begun.jog, begun.period, fun waits => ⟨(begun.starting waits).1, (begun.starting waits).2.1⟩,
      fun ready => (begun.running ready).1, begun.frame⟩

/-! ## The hand-over of d (R122, R126 to R129) -/

theorem State.actOnDemand_of_not_run {s : State} (h : s.ctrl.node ≠ .run) : s.actOnDemand = s := if_neg h

theorem State.actOnDemand_of_duty {s : State} (run : s.ctrl.node = .run) (mode : s.params.driveMode = .duty) :
    s.actOnDemand = s.actDuty := by
  simp [State.actOnDemand, run, mode]

theorem State.actOnDemand_of_rate {s : State} (run : s.ctrl.node = .run) (mode : s.params.driveMode = .rate) :
    s.actOnDemand = s.actRate := by
  simp [State.actOnDemand, run, mode]

/-- A drive that neither mode acts on is left alone. -/
theorem State.actOnDemand_of_idle {s : State} (duty : s.actDuty = s) (rate : s.actRate = s) : s.actOnDemand = s := by
  unfold State.actOnDemand
  (repeat' split)
  · exact duty
  · exact rate
  · rfl

/-- A drive that stops, or has faulted, is left alone (R122). -/
theorem State.actOnDemand_of_stopping {s : State} (h : s.drive.st = .stopping ∨ s.drive.st = .faulted) :
    s.actOnDemand = s := by
  obtain h | h := h <;> exact State.actOnDemand_of_idle (by rw [State.actDuty, h]) (by rw [State.actRate, h])

/-- A rest that is not over is left alone (R122, R127). -/
theorem State.actOnDemand_of_resting {s : State} (resting : s.drive.st = .resting)
    (timer : s.drive.period ≠ none ∨ s.drive.phase ≠ none) : s.actOnDemand = s := by
  have waits : ¬DriveBlock.restOver s.drive = true := fun ended => by
    simp only [DriveBlock.restOver, Bool.and_eq_true, Option.isNone_iff_eq_none] at ended
    exact timer.elim (fun runs => runs ended.1) fun runs => runs ended.2
  exact State.actOnDemand_of_idle (by simp [State.actDuty, resting, waits]) (by rw [State.actRate, resting])

/-- Without a demand nothing is started (R122). -/
theorem State.actOnDemand_of_no_demand {s : State} (demand : s.demand.d = 0)
    (rests : s.drive.st = .off ∨ s.drive.st = .resting) : s.actOnDemand = s := by
  have none : s.startIfDue = s := s.startIfDue_of_not_due (by simp [demand])
  obtain st | st := rests <;>
    exact State.actOnDemand_of_idle (by simp [State.actDuty, st, none]) (by simp [State.actRate, st, none])

/-- At OFF, and after a rest that is over, the d of the hand-over is what a start is made with (R122, R123, R128). -/
theorem State.actOnDemand_starts {s : State} (run : s.ctrl.node = .run)
    (h : s.drive.st = .off ∨ (s.params.driveMode = .duty ∧ s.drive.st = .resting ∧ s.drive.period = none
      ∧ s.drive.phase = none)) : s.actOnDemand = s.startIfDue := by
  obtain off | ⟨duty, resting, period, phase⟩ := h
  · cases mode : s.params.driveMode
    · rw [State.actOnDemand_of_duty run mode, State.actDuty, off]
    · rw [State.actOnDemand_of_rate run mode, State.actRate, off]
  · simp [State.actOnDemand_of_duty run duty, State.actDuty, resting, DriveBlock.restOver, period, phase]

/-- A drive started from OFF is STARTING in the recorded direction, or RESTING for a period with no on-time. -/
theorem State.actOnDemand_starts_off {s : State} (run : s.ctrl.node = .run) (off : s.drive.st = .off)
    (demand : 0 < s.demand.d) : s.actOnDemand.drive.dir = s.drive.dirRecord
      ∧ (s.actOnDemand.drive.st = .starting
        ∨ (s.params.driveMode = .duty ∧ s.actOnDemand.drive.onTime = 0 ∧ s.actOnDemand.drive.st = .resting)) := by
  rw [State.actOnDemand_starts run (.inl off)]
  cases mode : s.params.driveMode
  · obtain ⟨-, dir, -, -, -, rests, -, runs, -⟩ := State.startIfDue_dutyStarted run demand mode
    refine ⟨dir, ?_⟩
    by_cases zero : s.startIfDue.drive.onTime = 0
    · exact .inr ⟨rfl, zero, (rests zero).1⟩
    · exact .inl (runs zero rfl).1
  · rw [State.startIfDue_of_rate run demand mode]
    exact ⟨rfl, .inl rfl⟩

/-- In DUTY mode a d of 0 ends the on-time of a drive that is energized, and any other keeps it on (R126). -/
theorem State.actDuty_of_energized {s : State} (h : s.drive.st = .starting ∨ s.drive.st = .running) :
    s.actDuty = if s.demand.d = 0 then s.endOnTime else s := by
  obtain h | h := h <;> rw [State.actDuty, h]

/-! ## The change of direction that a hand-over begins (R122, R134) -/

/-- The drive at the hand-over when the direction record has been written and a change of direction begun, if one is. -/
def State.directed (s : State) (f : Frame) : State :=
  (s.withDrive { s.drive with dirRecord := frameDirection f }).changeDirection

theorem State.handDemandOver_eq (s : State) (f : Frame) (candidate : Nat) :
    s.handDemandOver f candidate = ((s.directed f).settleDemand candidate).actOnDemand := rfl

theorem State.directed_ctrl (s : State) (f : Frame) : (s.directed f).ctrl = s.ctrl := by
  simp [State.directed]

theorem State.handDemandOver_dirChange (s : State) (f : Frame) (candidate : Nat) :
    (s.handDemandOver f candidate).drive.dirChange = (s.directed f).drive.dirChange := by
  rw [State.handDemandOver_eq, State.actOnDemand_dirChange, State.settleDemand_drive]

/-- The d that a hand-over settles: the candidate in RUN with no change of direction under way, else 0 (R75, R122). -/
theorem State.handDemandOver_demand (s : State) (f : Frame) (candidate : Nat) :
    (s.handDemandOver f candidate).demand.d =
      if s.ctrl.node = .run ∧ (s.handDemandOver f candidate).drive.dirChange = false then candidate else 0 := by
  rw [State.handDemandOver_dirChange, State.handDemandOver_eq, State.actOnDemand_d, ← s.directed_ctrl f]
  rfl

/-- Where no change of direction begins, and at OFF, the record is written and the rest stands (R134). -/
theorem State.directed_of_kept {s : State} {f : Frame} (h : s.ctrl.node = .run → frameDirection f ≠ s.drive.dir →
      s.drive.jog = false → s.drive.dirChange = false → s.drive.st = .off) :
    s.directed f = s.withDrive { s.drive with dirRecord := frameDirection f } := by
  unfold State.directed State.changeDirection
  split
  · next begins =>
    obtain ⟨run, turned, jog, steady⟩ := begins
    have off : (s.withDrive { s.drive with dirRecord := frameDirection f }).drive.st = .off := h run turned jog steady
    rw [off]
  · rfl

/-- A change begun in STARTING, RUNNING or RESTING with a STOP_TIME: STOPPING with the flag set (R134). -/
theorem State.directed_halts {s : State} {f : Frame} (run : s.ctrl.node = .run)
    (turned : frameDirection f ≠ s.drive.dir) (jog : s.drive.jog = false) (steady : s.drive.dirChange = false)
    (stopTime : s.params.stopTime ≠ 0)
    (st : s.drive.st = .starting ∨ s.drive.st = .running ∨ s.drive.st = .resting) :
    (s.directed f).drive = { s.drive with
      st := .stopping
      rateRef := 0
      period := none
      phase := some (Timer.tenths s.params.stopTime)
      dirRecord := frameDirection f
      dirChange := true } := by
  unfold State.directed State.changeDirection
  rw [if_pos ⟨run, turned, jog, steady⟩]
  obtain st | st | st := st <;> simp [st, State.haltToReverse, stopTime]

/-- A STOPPING drive goes on stopping, with the flag set (R134). -/
theorem State.directed_of_stopping {s : State} {f : Frame} (run : s.ctrl.node = .run)
    (stopping : s.drive.st = .stopping) (jog : s.drive.jog = false)
    (h : frameDirection f ≠ s.drive.dir ∨ s.drive.dirChange = true) :
    (s.directed f).drive = { s.drive with dirRecord := frameDirection f, dirChange := true } := by
  cases flag : s.drive.dirChange
  · have turned := h.resolve_right (by simp [flag])
    simp [State.directed, State.changeDirection, run, turned, jog, flag, stopping]
  · rw [State.directed_of_kept fun _ _ _ steady => by simp [flag] at steady, ← flag]
    rfl

/-- While the flag is set d is 0 and a STOPPING drive is left as it is (R122, R134). -/
theorem State.handDemandOver_of_change {s : State} {f : Frame} (candidate : Nat)
    (stopping : (s.directed f).drive.st = .stopping) (change : (s.directed f).drive.dirChange = true) :
    (s.handDemandOver f candidate).demand.d = 0
      ∧ (s.handDemandOver f candidate).drive = (s.directed f).drive := by
  refine ⟨?_, ?_⟩
  · rw [State.handDemandOver_demand, State.handDemandOver_dirChange, if_neg (by simp [change])]
  · have stands : ((s.directed f).settleDemand candidate).drive.st = .stopping := stopping
    rw [State.handDemandOver_eq, State.actOnDemand_of_stopping (.inl stands), State.settleDemand_drive]

/-- At OFF in RUN a candidate above 0 starts the drive in the direction of the frame (R122, R123, R128). -/
theorem State.handDemandOver_starts {s : State} {f : Frame} {candidate : Nat} (run : s.ctrl.node = .run)
    (steady : s.drive.dirChange = false) (off : s.drive.st = .off) (demand : 0 < candidate) :
    (s.handDemandOver f candidate).drive.dir = frameDirection f
      ∧ ((s.handDemandOver f candidate).drive.st = .starting
        ∨ (s.params.driveMode = .duty ∧ (s.handDemandOver f candidate).drive.onTime = 0
          ∧ (s.handDemandOver f candidate).drive.st = .resting)) := by
  have settled : (s.directed f).settleDemand candidate =
      (s.withDrive { s.drive with dirRecord := frameDirection f }).withDemand { s.demand with d := candidate } := by
    rw [State.directed_of_kept fun _ _ _ _ => off]
    simp [State.settleDemand, run, steady]
  rw [State.handDemandOver_eq, settled]
  exact State.actOnDemand_starts_off (s := (s.withDrive { s.drive with dirRecord := frameDirection f }).withDemand
    { s.demand with d := candidate }) run off demand

/-- Settles O41: the third step of the hand-over by the drive state and DRIVE_MODE, and the steps before it by whether a
change of direction begins, is under way, or is not asked for. -/
theorem handOverActsOnDrive : Obligations.HandOverActsOnDrive := by
  refine ⟨fun s => ⟨State.actOnDemand_of_not_run, fun run mode st => ?_, fun _ run mode off demand => ?_,
    fun run mode st => ?_, fun run mode st => ?_, fun run mode off demand => ?_,
    fun run mode st period phase demand => ?_, State.actOnDemand_of_resting, State.actOnDemand_of_no_demand,
    State.actOnDemand_of_stopping⟩, fun f candidate s => ⟨s.handDemandOver_dirRecord f candidate,
    s.handDemandOver_demand f candidate, fun run turned jog steady stopTime st => ?_,
    fun run stopping jog change => ?_, fun run same steady => ?_, fun rests => ?_,
    fun run steady off demand => State.handDemandOver_starts run steady off demand⟩⟩
  · rw [State.actOnDemand_of_rate run mode, State.actRate, st]
  · rw [State.actOnDemand_starts run (.inl off), State.startIfDue_of_rate run demand mode]
    exact ⟨s.startRate_frame, rfl, rfl, rfl, rfl, rfl⟩
  · rw [State.actOnDemand_of_rate run mode, State.actRate, st]
  · rw [State.actOnDemand_of_duty run mode, State.actDuty_of_energized st]
    rfl
  · rw [State.actOnDemand_starts run (.inl off)]
    exact State.startIfDue_dutyStarted run demand mode
  · rw [State.actOnDemand_starts run (.inr ⟨mode, st, period, phase⟩)]
    exact State.startIfDue_dutyStarted run demand mode
  · have halted := State.directed_halts run turned jog steady stopTime st
    have change := State.handDemandOver_of_change (s := s) (f := f) candidate (by rw [halted]) (by rw [halted])
    rwa [halted] at change
  · have stops := State.directed_of_stopping run stopping jog change
    have handed := State.handDemandOver_of_change (s := s) (f := f) candidate (by rw [stops]; exact stopping)
      (by rw [stops])
    rwa [stops] at handed
  · rw [State.handDemandOver_dirChange, State.directed_of_kept fun _ turned => absurd same turned]
    exact steady
  · have outside : ((s.directed f).settleDemand candidate).ctrl.node ≠ .run := by
      rwa [State.settleDemand_ctrl, State.directed_ctrl]
    rw [State.handDemandOver_eq, State.actOnDemand_of_not_run outside, State.settleDemand_drive,
      State.directed_of_kept fun run => absurd run rests]
    rfl

end Sys2Proof.Machine
end

section
/-! SUPPORT. What a law of the drive must survive to be kept by every command: the acts of the drive itself, a move of
the node, and what a processing adds to them (R121 to R137). The laws of the drive output, of the resting drive and of
DRDY each meet these acts, and the operations and commands are proved once for all three. -/

namespace Sys2Proof.Machine

/-! ## What a law of the drive reads -/

/-- An OFF or FAULTED drive holds no timer and no flag (R131, R133). -/
def DriveBlock.Idle (x : DriveBlock) : Prop :=
  x.st = .off ∨ x.st = .faulted → x.period = none ∧ x.phase = none ∧ x.dirChange = false ∧ x.jog = false

/-- A de-energized drive with RATE_REF 0, idle in OFF and FAULTED (R121, R131). -/
def DriveBlock.Still (x : DriveBlock) : Prop := DriveState.energizes x.st = false ∧ x.rateRef = 0 ∧ x.Idle

/-- Of what a law of the drive reads, DRDY aside, nothing has changed: the drive has its state and its reference, and is
idle if it was; the parameters stand; and no node has left RUN or LOCAL. -/
structure State.SameDrive (s t : State) : Prop where
  st : t.drive.st = s.drive.st
  rateRef : t.drive.rateRef = s.drive.rateRef
  idle : s.drive.Idle → t.drive.Idle
  params : t.params = s.params
  node : s.ctrl.node = .run ∨ s.ctrl.node = .manual → t.ctrl.node = s.ctrl.node

theorem State.SameDrive.refl (s : State) : s.SameDrive s := ⟨rfl, rfl, id, rfl, fun _ => rfl⟩

theorem State.SameDrive.of_drive {s t : State} (drive : t.drive = s.drive) (params : t.params = s.params)
    (node : s.ctrl.node = .run ∨ s.ctrl.node = .manual → t.ctrl.node = s.ctrl.node) : s.SameDrive t :=
  ⟨by rw [drive], by rw [drive], by rw [drive]; exact id, params, node⟩

theorem DriveBlock.still_stoppedAt (x : DriveBlock) {st : DriveState} (h : st = .off ∨ st = .faulted) :
    (DriveBlock.stoppedAt x st).Still := by
  refine ⟨?_, rfl, fun _ => ⟨rfl, rfl, rfl, rfl⟩⟩
  obtain rfl | rfl := h <;> rfl

/-- A drive that waits, not in OFF or FAULTED, with RATE_REF 0. -/
theorem DriveBlock.still_of_waiting {x : DriveBlock} (h : x.st = .resting ∨ x.st = .stopping) (rate : x.rateRef = 0) :
    x.Still := by
  refine ⟨?_, rate, fun rest => ?_⟩
  · obtain h | h := h <;> rw [h] <;> rfl
  · obtain h | h := h <;> simp [h] at rest

/-! ## The acts -/

/-- The acts of the drive keep the law: it reads no more than `State.SameDrive` and DRDY, and it survives a drive that
becomes still, a start, a jog, and DRDY taken whether or not it has just become active. -/
structure DriveActs (law : State → Prop) : Prop where
  same : ∀ {s t : State}, law s → s.SameDrive t → (t.drdyActive = true → s.drdyActive = true) → law t
  ready : ∀ {s t : State}, law s → s.SameDrive t → law t.takeReady
  still : ∀ {s : State}, s.drive.Still → law s
  start : ∀ {s : State}, law s → law s.startIfDue.takeReady
  jog : ∀ {s : State}, law s → law s.startJogIfDue

/-- The moves of the node keep it too (R48, R132). -/
structure NodeActs (law : State → Prop) : Prop extends DriveActs law where
  moveTo : ∀ {s : State}, law s → ∀ n, law (s.moveTo n)

/-- What a processing adds: a start whose DRDY is left for the end, a new reference in RATE RUNNING, the Drive Sequencer
at a swap (R122, R129, R135). -/
structure StageActs (law : State → Prop) : Prop extends NodeActs law where
  started : ∀ {s : State}, law s → law s.startIfDue
  rate : ∀ {s : State}, law s → s.drive.st = .running → s.params.driveMode = .rate → ∀ n,
    law (s.withDrive { s.drive with rateRef := n })
  swap : ∀ {s : State}, law s → law s.swappedToDrive

/-- An operation that acts on a condition keeps a law when its act does. -/
theorem keeps_ite {law : State → Prop} {s t : State} {p : Prop} [Decidable p] (h : law s) (act : p → law t) :
    law (if p then t else s) := by
  split
  · next hp => exact act hp
  · exact h

section
variable {law : State → Prop}

/-! ## The drive -/

theorem DriveActs.quiet (acts : DriveActs law) {s t : State} (h : law s) (drive : t.drive = s.drive)
    (params : t.params = s.params) (inputs : t.inputs = s.inputs) (node : t.ctrl.node = s.ctrl.node) : law t :=
  acts.same h (.of_drive drive params fun _ => node) fun ready => by
    rwa [State.drdyActive, State.inputActive_congr params inputs] at ready

theorem DriveActs.raise (acts : DriveActs law) {s : State} (h : law s) (e : Event) : law (s.raise e) :=
  acts.quiet h rfl rfl rfl rfl

/-- The stop of an energized drive owes the law nothing (R132, R133). -/
theorem DriveActs.enterStopping (acts : DriveActs law) (s : State) : law s.enterStopping := by
  have halted : law s.haltMotor := acts.still (DriveBlock.still_of_waiting (.inr rfl) rfl)
  have off (a : State) : law a.driveOff := acts.still (DriveBlock.still_stoppedAt a.drive (.inl rfl))
  unfold State.enterStopping
  split
  · exact acts.jog (acts.start (off _))
  · exact halted

theorem DriveActs.driveStop (acts : DriveActs law) {s : State} (h : law s) : law s.driveStop := by
  unfold State.driveStop
  split
  case h_1 | h_2 => exact acts.enterStopping s
  case h_3 => exact acts.still (DriveBlock.still_stoppedAt s.drive (.inl rfl))
  all_goals exact h

theorem DriveActs.endJog (acts : DriveActs law) {s : State} (h : law s) : law s.endJog :=
  keeps_ite h fun _ => acts.enterStopping s

theorem DriveActs.arriveOff (acts : DriveActs law) (s : State) : law s.arriveOff :=
  acts.jog (acts.start (acts.still (DriveBlock.still_stoppedAt s.drive (.inl rfl))))

/-- The end of the wait in RESTING: the timers of a drive that is not OFF or FAULTED are no concern of a law (R127). -/
theorem DriveActs.endRest (acts : DriveActs law) {s : State} (h : law s) (resting : s.drive.st = .resting) :
    law s.endRest := by
  refine acts.start (acts.same h ⟨rfl, rfl, fun _ off => ?_, rfl, fun _ => rfl⟩ id)
  simp [resting] at off

theorem DriveActs.endOnTime (acts : DriveActs law) (s : State) : law s.endOnTime :=
  acts.still (DriveBlock.still_of_waiting (.inl rfl) rfl)

/-- A tick runs the timers that run, and starts none (R121, R192). -/
theorem DriveActs.tickReference (acts : DriveActs law) {s : State} (h : law s) : law s.tickReference := by
  refine acts.same h ⟨rfl, rfl, fun idle off => ?_, rfl, fun _ => rfl⟩ id
  obtain ⟨period, phase, flags⟩ := idle off
  exact ⟨by simp [State.tickReference, period], by simp [State.tickReference, phase], flags⟩

theorem DriveActs.lockout (acts : DriveActs law) {s : State} (h : law s) (lockout : Bool) :
    law (s.withDrive { s.drive with lockout := lockout }) :=
  acts.same h ⟨rfl, rfl, id, rfl, fun _ => rfl⟩ id

/-- A law that reads the node only by what the drive does with it survives every move (R48, R132, R136). -/
theorem DriveActs.moveTo_of_blind (acts : DriveActs law) (blind : ∀ {s : State}, law s → ∀ n, law (s.withNode n))
    {s : State} (h : law s) (n : NodeState) : law (s.moveTo n) := by
  have left : law (if s.ctrl.node = .run then (s.withNode n).dropDemand else s.withNode n) :=
    keeps_ite (blind h n) fun _ => acts.quiet (blind h n) rfl rfl rfl rfl
  have entered {a : State} (ha : law a) : law (if n = .manual then a.noteLocalEntry else a) :=
    keeps_ite ha fun _ => acts.lockout (acts.raise ha .handEntry) false
  have stopped {a : State} (ha : law a) (p : Prop) [Decidable p] : law (if p then a.driveStop else a) :=
    keeps_ite ha fun _ => acts.driveStop ha
  have jogged {a : State} (ha : law a) : law (if n = .manual then a.startJogIfDue else a) :=
    keeps_ite ha fun _ => acts.jog ha
  unfold State.moveTo
  split
  · exact h
  · exact jogged (stopped (entered left) _)

/-! ## Trips, evaluations and the hold causes (R44, R45, R50 to R55) -/

theorem NodeActs.tripRequest (acts : NodeActs law) {s : State} (h : law s) (cause : TripCause) :
    law (s.tripRequest cause) := by
  have trip (r : Option TripRecord) : law (s.withTrip r) := acts.quiet h rfl rfl rfl rfl
  unfold State.tripRequest
  split
  case h_1 => exact h
  case h_2 | h_3 | h_4 => exact acts.moveTo (acts.moveTo (trip _) _) _
  case h_5 => exact trip _
  case h_6 =>
    (repeat' split)
    · exact trip _
    · exact trip _
    · exact h

theorem NodeActs.tripRequestIf (acts : NodeActs law) {s : State} (h : law s) (b : Bool) (cause : TripCause) :
    law (s.tripRequestIf b cause) :=
  keeps_ite h fun _ => acts.tripRequest h cause

theorem NodeActs.safeRequest (acts : NodeActs law) {s : State} (h : law s) : law s.safeRequest :=
  acts.tripRequest (acts.raise h .safety) .safe

theorem NodeActs.evaluate (acts : NodeActs law) {s : State} (h : law s) : law s.evaluate :=
  keeps_ite (acts.moveTo h _) fun _ => acts.safeRequest (acts.moveTo h _)

theorem NodeActs.setHolds (acts : NodeActs law) {s : State} (h : law s) (holds : HoldCauses) :
    law (s.setHolds holds) := by
  unfold State.setHolds
  split
  · exact h
  · exact acts.evaluate (acts.quiet h rfl rfl rfl rfl)

theorem NodeActs.enterChain (acts : NodeActs law) {s : State} (h : law s) (opener : Bool) :
    law (s.enterChain opener) := by
  unfold State.enterChain
  split
  · exact h
  · exact acts.setHolds (acts.quiet h (by simp) (by simp) (by simp) (by simp)) _

theorem NodeActs.faultDrive (acts : NodeActs law) (s : State) : law s.faultDrive := by
  rw [State.faultDrive_eq]
  exact acts.tripRequest (acts.still (DriveBlock.still_stoppedAt s.drive (.inr rfl))) _

theorem NodeActs.stallTest (acts : NodeActs law) {s : State} (h : law s) : law s.stallTest := by
  have stalled : law s.stalled := acts.quiet h rfl rfl rfl rfl
  have trip := acts.tripRequestIf stalled s.params.tripEnables.stall .stall
  refine keeps_ite h fun _ => ?_
  obtain e | ⟨-, e⟩ := s.raiseStall_cases <;> rw [e]
  · exact trip
  · exact acts.endJog (acts.lockout trip true)

/-! ## Slot commands (R59, R184) -/

theorem NodeActs.applyClearSet (acts : NodeActs law) {s : State} (h : law s) (named : Word16) :
    law (s.applyClearSet named) :=
  acts.quiet h (by simp) (by simp) (by simp) (by simp)

/-- An accepted drive reset brings a FAULTED drive to OFF and the node from TRIPPED to IDLE (R59). -/
theorem NodeActs.applyDriveReset (acts : NodeActs law) {s : State} (h : law s) : law s.applyDriveReset := by
  refine keeps_ite h fun tripped => ?_
  split
  · rw [State.acceptDriveReset_eq]
    refine acts.moveTo ?_ _
    unfold State.rearmed
    split
    · exact acts.still (DriveBlock.still_stoppedAt s.drive (.inl rfl))
    · exact acts.same h (.of_drive rfl rfl fun moving => by simp [tripped] at moving) id
  · exact acts.quiet h rfl rfl rfl rfl

/-! ## Inputs (R55, R125, R130, R136, R178, R179) -/

theorem NodeActs.safeChange (acts : NodeActs law) {s : State} (h : law s) (nowActive : Bool) :
    law (s.safeChange nowActive) := by
  unfold State.safeChange
  (repeat' split)
  case isTrue => exact acts.evaluate h
  case h_1 => exact h
  case h_2 => exact acts.raise h .safety
  all_goals exact acts.safeRequest h

theorem NodeActs.jogChange (acts : NodeActs law) {s : State} (h : law s) (nowActive : Bool) :
    law (s.jogChange nowActive) := by
  have jog {a : State} (ha : law a) (p : Prop) [Decidable p] : law (if p then a.endJog else a.startJogIfDue) := by
    split
    · exact acts.endJog ha
    · exact acts.jog ha
  have cleared : law (if nowActive = true ∧ s.drive.st = .off then s.withDrive { s.drive with lockout := false }
      else s) := keeps_ite h fun _ => acts.lockout h false
  exact keeps_ite cleared fun _ => jog cleared _

/-- DRDY as it has come to read, whatever it read before (R125, R130): active it is taken, and inactive a STARTING drive
waits for it and a RUNNING drive faults. -/
theorem NodeActs.drdyTurn (acts : NodeActs law) {s t : State} (h : law s) (same : s.SameDrive t) :
    law (t.drdyChange t.drdyActive) := by
  unfold State.drdyChange
  split
  · exact acts.ready h same
  · next waits => exact keeps_ite (acts.same h same fun ready => absurd ready waits) fun _ => acts.faultDrive t

theorem NodeActs.handOver (acts : NodeActs law) {s : State} (h : law s) {i : InputName} (nowActive : Bool)
    (other : i ≠ .drdy) : law (s.handOver i nowActive) := by
  cases i
  case safe => exact acts.safeChange h nowActive
  case hand => exact acts.evaluate h
  case jogF | jogR => exact acts.jogChange h nowActive
  case drdy => exact absurd rfl other
  case aux => exact keeps_ite h fun _ => acts.raise h .aux

theorem State.withInput_sameDrive (s : State) (i : InputName) (x : InputState) : s.SameDrive (s.withInput i x) :=
  .of_drive rfl rfl fun _ => rfl

/-- What an input holds beside its filtered pin level is no concern of DRDY (R176). -/
theorem NodeActs.withSamples (acts : NodeActs law) {s : State} (h : law s) (i : InputName)
    (samples : Option SampleRun) : law (s.withInput i { PerInput.get s.inputs i with samples := samples }) := by
  refine acts.same h (s.withInput_sameDrive i _) fun ready => ?_
  rwa [State.drdyActive, State.inputActive_of_pin (s := s) (by simp) (by cases i <;> rfl)] at ready

theorem NodeActs.setPin (acts : NodeActs law) {s : State} (h : law s) (i : InputName) (level : Level) :
    law (s.setPin i level) := by
  have same (x : InputState) := s.withInput_sameDrive i x
  have held (x : InputState) (reads : i = .drdy → (s.withInput i x).inputActive i = s.inputActive i) :
      law (s.withInput i x) := by
    refine acts.same h (same x) fun ready => ?_
    by_cases drdy : i = .drdy
    · subst drdy
      exact (reads rfl).symm.trans ready
    · rwa [State.drdyActive, State.inputActive_of_pin (s := s) (by simp)
        (by simp [State.withInput, PerInput.get_put, Ne.symm drdy])] at ready
  unfold State.setPin
  simp only
  (repeat' split)
  · exact h
  · next kept => exact held _ fun _ => kept
  · next aux => exact held _ fun drdy => by simp [drdy] at aux
  · by_cases drdy : i = .drdy
    · subst drdy
      exact acts.drdyTurn h (same _)
    · exact acts.handOver (held _ fun h => absurd h drdy) _ drdy

theorem NodeActs.sampleInput (acts : NodeActs law) {s : State} (h : law s) (i : InputName) (level : Level) :
    law (s.sampleInput i level) :=
  keeps_ite (acts.withSamples h i _) fun _ => acts.setPin (acts.withSamples h i _) i level

/-! ## The span line (R17 to R20, R38) -/

theorem NodeActs.arriveFrame (acts : NodeActs law) {s : State} (h : law s) (link : Link) (burst : List RxByte) :
    law (s.arriveFrame link burst) := by
  have placed {a : State} (ha : law a) (l : Link) (f : Frame) : law (a.placeFrame l f) :=
    acts.quiet ha (by simp) (by simp) (by simp) (by simp)
  have arrived : law s.outboundArrival :=
    acts.quiet (acts.setHolds h { s.ctrl.holds with linkLost := false }) rfl rfl rfl rfl
  unfold State.arriveFrame
  (repeat' split)
  · exact acts.raise h .lineError
  · exact placed arrived _ _
  · exact placed h _ _

theorem NodeActs.takeInbound (acts : NodeActs law) {s : State} (h : law s) (f : Frame) : law (s.takeInbound f) := by
  have sent {a : State} (ha : law a) (x : LineBlock) : law (a.withLine x) := acts.quiet ha rfl rfl rfl rfl
  have latch {a : State} (ha : law a) : law (a.latchInbound f) := by
    have latched : law (a.latched f) := acts.quiet ha rfl rfl rfl rfl
    obtain ⟨-, e⟩ | ⟨-, -, e⟩ | ⟨-, -, e⟩ := a.latchInbound_cases f <;> rw [e]
    · exact acts.enterChain latched _
    · exact acts.setHolds latched _
    · exact latched
  have accepted : law (s.acceptReturn f) := latch (acts.setHolds (sent h _) _)
  exact sent (keeps_ite h fun _ => accepted) _

theorem NodeActs.loseReturns (acts : NodeActs law) {s : State} (h : law s) : law s.loseReturns :=
  acts.setHolds (acts.raise h .returnLost) _

theorem NodeActs.serveCommand (acts : NodeActs law) {s : State} (h : law s) (op : Byte) (q : Request) :
    law (s.serveCommand op q) := by
  have frame := s.serve_frame (recordOf op q)
  have ctrl : (s.serve (recordOf op q)).1.ctrl = s.ctrl := frame .ctrl (by decide)
  exact keeps_ite h fun _ => acts.quiet h (frame .drive (by decide)) (s.serve_params _) (frame .inputs (by decide))
    (congrArg CtrlBlock.node ctrl)

/-! ## Every command but a processing -/

theorem State.BlocksAtReset.still {s : State} (h : s.BlocksAtReset) : s.drive.Still := by
  obtain ⟨-, -, -, -, -, -, ⟨st, rate, -, -, -, -, period, phase, dirChange, jog, -⟩, -⟩ := h
  exact ⟨by rw [st]; rfl, rate, fun _ => ⟨period, phase, dirChange, jog⟩⟩

theorem execInboundTake_keeps (acts : NodeActs law) {s t : State} (h : law s) (next : execInboundTake s = .next t) :
    law t := by
  obtain rfl := Host.Outcome.next.inj next
  refine keeps_ite h fun _ => ?_
  split
  · exact acts.takeInbound h _
  · exact h
  · exact h

theorem execOutboundProcessing_keeps {s t : State} (h : law s) (processed : ∀ f, law (s.processed f))
    (next : execOutboundProcessing s = .next t) : law t := by
  obtain rfl := Host.Outcome.next.inj next
  refine keeps_ite h fun _ => ?_
  split
  · exact processed _
  · exact h
  · exact h

theorem execLineResetEffect_keeps (acts : NodeActs law) {s t : State} (h : law s)
    (next : execLineResetEffect s = .next t) : law t := by
  obtain rfl := Host.Outcome.next.inj next
  refine keeps_ite h fun _ => ?_
  split
  · exact h
  · exact acts.still (s.resetBlocks_blocksAtReset _).still

/-- Every command keeps a law that survives the acts of the node, when a processing keeps it: a reset leaves the drive
still, and every other command is made of those acts or is no concern of the drive. -/
theorem exec_keeps (acts : NodeActs law) (processed : ∀ {s : State}, law s → ∀ f, law (s.processed f)) {c : Instr}
    {s t : State} (h : law s) (next : exec c s = .next t) : law t := by
  have reset {a : State} (ha : a.BlocksAtReset) : law a := acts.still ha.still
  cases c
  case inboundTake => exact execInboundTake_keeps acts h next
  case outboundProcessing => exact execOutboundProcessing_keeps h (processed h) next
  case lineResetEffect => exact execLineResetEffect_keeps acts h next
  all_goals obtain rfl := Host.Outcome.next.inj next
  case powerOnReset =>
    split
    · exact h
    · exact reset (s.resetBlocks_blocksAtReset false)
  case supplyLoss => exact keeps_ite h fun _ => reset (s.resetBlocks_blocksAtReset false)
  case initialisationEnd => exact keeps_ite h fun _ => reset (State.resetBlocks_blocksAtReset _ false)
  case pinReset => exact reset (s.resetBlocks_blocksAtReset false)
  case frameArrival => exact keeps_ite h fun _ => acts.arriveFrame h _ _
  case clearSet => exact keeps_ite h fun _ => acts.applyClearSet h _
  case driveReset => exact keeps_ite h fun _ => acts.applyDriveReset h
  case frameTimeout =>
    exact keeps_ite h fun _ => acts.quiet (acts.setHolds (acts.raise h .linkLost) _) rfl rfl rfl rfl
  case stall => exact keeps_ite h fun _ => acts.stallTest h
  case inputChange i _ => exact keeps_ite h fun _ => acts.setPin (acts.withSamples h i _) i _
  case inputSample i _ =>
    exact keeps_ite h fun _ => acts.sampleInput (s := s.markSampled i) (acts.quiet h rfl rfl rfl rfl) i _
  case startTimeout => exact keeps_ite h fun _ => acts.faultDrive s
  case onTimeEnd => exact keeps_ite h fun _ => acts.endOnTime s
  case restingEnd =>
    refine keeps_ite h fun ⟨_, expired⟩ => acts.endRest h ?_
    obtain ⟨resting, -⟩ := s.restRunOut_iff.1 expired
    exact resting
  case stopTimeEnd => exact keeps_ite h fun _ => acts.arriveOff s
  case wheelTick =>
    refine keeps_ite h fun _ => acts.stallTest ?_
    have ticked := acts.tickReference h
    split <;> exact acts.quiet ticked (by simp) (by simp) (by simp) (by simp)
  case readParam | writeParam | readEntry | writeEntry | trimEntries | stageFromActive | commit | setEvents | readLive
      | lineReset =>
    exact acts.serveCommand h _ _
  case unknownOp =>
    split
    · exact h
    · exact acts.serveCommand h _ _
  all_goals exact keeps_ite h fun _ => acts.quiet h (by simp) (by simp) (by simp) (by simp)

/-- A step is a command or idles. -/
theorem keptByStep (acts : NodeActs law) (processed : ∀ {s : State}, law s → ∀ f, law (s.processed f)) :
    State.KeptByStep law := by
  intro s t h next
  cases pending : s.pending with
  | nil =>
    rw [step, pending] at next
    obtain rfl := Host.Outcome.next.inj next
    exact h
  | cons c rest =>
    rw [step_cons s c rest pending] at next
    exact exec_keeps acts processed (s := s.withPending rest) (acts.quiet h rfl rfl rfl rfl) next

/-! ## A processing (R23) -/

theorem NodeActs.stageCommand (acts : NodeActs law) {s : State} (h : law s) (f : Frame) (owned : Bool) :
    law (s.stageCommand f owned) := by
  have noted (x : SlotBlock) : law (s.withSlot x) := acts.quiet h rfl rfl rfl rfl
  cases owned
  · exact noted _
  · have commanded : law (s.commanded f) := acts.applyClearSet (noted _) _
    rw [State.stageCommand_of_owned]
    exact keeps_ite commanded fun _ => acts.applyDriveReset commanded

/-- Strap fault is a move to STANDBY, and a FAULTED drive goes to OFF (R26, R47, R131). -/
theorem NodeActs.enterStrapFault (acts : NodeActs law) {s : State} (h : law s) : law s.enterStrapFault :=
  keeps_ite (acts.moveTo (s := s.withTrip none) (acts.quiet h rfl rfl rfl rfl) _) fun _ =>
    acts.still (DriveBlock.still_stoppedAt _ (.inl rfl))

theorem NodeActs.stageLocate (acts : NodeActs law) {s : State} (h : law s) (f : Frame) : law (s.stageLocate f) := by
  unfold State.stageLocate
  (repeat' split)
  · exact acts.enterStrapFault (acts.raise h .strap)
  · exact acts.setHolds h _
  · exact acts.setHolds h _
  · exact acts.raise h .strap

theorem NodeActs.takeOutbound (acts : NodeActs law) {s : State} (h : law s) (f : Frame) : law (s.takeOutbound f) := by
  have noted {a : State} (ha : law a) (x : LineBlock) : law (a.withLine x) := acts.quiet ha rfl rfl rfl rfl
  have checked : law (s.checked f) := by
    obtain ⟨x, e⟩ | ⟨x, y, e⟩ :=
        (s.withLine { s.line with lastOut := frameSeq f }).returnCheck_cases (frameSeq f) <;> rw [State.checked, e]
    · exact noted (noted h _) x
    · exact noted (acts.loseReturns (noted (noted h _) x)) y
  rw [State.takeOutbound_eq]
  exact keeps_ite checked fun _ => acts.enterChain checked false

theorem NodeActs.inputAtSwap (acts : NodeActs law) {s : State} (h : law s) (old : Params) (i : InputName) :
    law (s.inputAtSwap old i) := by
  have run : law (s.refiltered old i) := acts.same h (.of_drive (by simp) (by simp) (by simp)) fun ready => by
    rwa [State.drdyActive, State.refiltered_inputActive] at ready
  by_cases steady : PerInput.get old.inputPolarity i = PerInput.get s.params.inputPolarity i
      ∨ (PerInput.get s.inputs i).pin = none
  · rw [State.inputAtSwap_of_steady steady]
    exact run
  · unfold State.inputAtSwap
    simp only [if_neg steady]
    cases i
    case safe => exact keeps_ite (acts.safeChange run _) fun _ => acts.raise run .safety
    case aux => exact keeps_ite run fun _ => acts.raise run .aux
    case drdy => exact acts.drdyTurn run (.refl _)
    all_goals exact acts.handOver run _ (by decide)

theorem NodeActs.inputsAtSwap (acts : NodeActs law) {s : State} (h : law s) (old : Params) :
    law (s.inputsAtSwap old) := by
  have turn {a : State} (ha : law a) (i : InputName) : law (a.inputAtSwap old i) := acts.inputAtSwap ha old i
  exact acts.tripRequestIf (turn (turn (turn (turn (turn (turn h .safe) .hand) .jogF) .jogR) .drdy) .aux) _ _

theorem StageActs.stageSwap (acts : StageActs law) {s : State} (h : law s) (f : Frame) : law (s.stageSwap f) := by
  have line : law s.swappedToLine := keeps_ite (acts.swap h) fun _ =>
    acts.loseReturns (acts.quiet (acts.swap h) rfl rfl rfl rfl)
  have swapped : law s.profileSwap := acts.inputsAtSwap line s.params
  have lamp {a : State} (ha : law a) : law (a.lampAtFrame (frameSeq f)) := acts.quiet ha rfl rfl rfl rfl
  unfold State.stageSwap
  split
  · exact lamp swapped
  · exact lamp (acts.quiet h rfl rfl rfl rfl)

/-- A change of direction leaves an energized or resting drive still, and marks a STOPPING one (R134). -/
theorem DriveActs.changeDirection (acts : DriveActs law) {s : State} (h : law s) : law s.changeDirection := by
  have halted : law s.haltToReverse := by
    unfold State.haltToReverse
    split
    · exact acts.still (DriveBlock.still_stoppedAt s.drive (.inl rfl))
    · exact acts.still (DriveBlock.still_of_waiting (.inr rfl) rfl)
  refine keeps_ite h fun _ => ?_
  split
  case h_1 | h_2 => exact h
  case h_3 stopping => exact acts.same h ⟨rfl, rfl, fun _ off => by simp [stopping] at off, rfl, fun _ => rfl⟩ id
  all_goals exact halted

theorem StageActs.actOnDemand (acts : StageActs law) {s : State} (h : law s) : law s.actOnDemand := by
  refine keeps_ite h fun _ => ?_
  split
  · unfold State.actDuty
    split
    case h_1 => exact acts.started h
    case h_2 => exact keeps_ite h fun _ => acts.started h
    case h_3 | h_4 => exact keeps_ite h fun _ => acts.endOnTime s
    all_goals exact h
  · next rate =>
    unfold State.actRate
    split
    case h_1 => exact acts.started h
    case h_2 running => exact acts.rate h running rate _
    all_goals exact h

theorem StageActs.handDemandOver (acts : StageActs law) {s : State} (h : law s) (f : Frame) (candidate : Nat) :
    law (s.handDemandOver f candidate) := by
  have noted : law (s.withDrive { s.drive with dirRecord := frameDirection f }) :=
    acts.same h ⟨rfl, rfl, id, rfl, fun _ => rfl⟩ id
  exact acts.actOnDemand (acts.quiet (acts.changeDirection noted) rfl rfl rfl rfl)

theorem NodeActs.firstEvaluate (acts : NodeActs law) {s : State} (h : law s) : law s.firstEvaluate := by
  have woken : law s.woken := keeps_ite h fun plain =>
    acts.same h (.of_drive rfl rfl fun moving => by simp [plain] at moving) id
  exact keeps_ite (acts.moveTo woken _) fun _ => acts.safeRequest (acts.moveTo woken _)

theorem NodeActs.requestAll (acts : NodeActs law) {s : State} (h : law s) (causes : List TripCause) :
    law (s.requestAll causes) := by
  induction causes generalizing s with
  | nil => exact h
  | cons cause rest ih => exact ih (acts.tripRequest h cause)

theorem StageActs.stageMotion (acts : StageActs law) {s : State} (h : law s) (f : Frame) : law (s.stageMotion f) := by
  have begun : law (s.beginMotion f) :=
    acts.firstEvaluate (s := s.withCtrl { s.ctrl with machineRun := frameMachineRun f }) (acts.quiet h rfl rfl rfl rfl)
  have computed : law (s.computed f) :=
    acts.quiet begun (s.computed_drive f) (by simp [State.computed, State.computing])
      (by simp [State.computed, State.computing]) (by rw [s.computed_ctrl])
  have requested : law (s.requested f) := by
    rw [State.requested_eq]
    exact acts.requestAll computed _
  have settled (c : Nat) : law ((s.requested f).evaluate.settleContribution c) :=
    acts.quiet (acts.evaluate requested) rfl rfl rfl rfl
  rw [State.stageMotion_eq]
  exact acts.handDemandOver (settled _) f _

theorem NodeActs.stageChain (acts : NodeActs law) {s : State} (h : law s) (f : Frame) : law (s.stageChain f) := by
  have noted (x : SlotBlock) : law (s.withSlot x) := acts.quiet h rfl rfl rfl rfl
  unfold State.stageChain
  split
  · exact acts.enterChain (noted _) true
  · exact noted _

/-- The end of the stages: the stall test, END's turn-around, and DRDY (R37, R109, R125). -/
theorem NodeActs.endStages (acts : NodeActs law) {s : State} (h : law s) (ceiling : Nat) (chainOpen : Bool) :
    law (s.endStages ceiling chainOpen) := by
  have noted (x : SlotBlock) : law (s.stallTest.withSlot x) := acts.quiet (acts.stallTest h) rfl rfl rfl rfl
  have turned : law (s.stallTest.turnAround ceiling chainOpen) := by
    unfold State.turnAround
    split
    · exact acts.enterChain (noted _) _
    · exact acts.setHolds (noted _) _
  unfold State.endStages
  split
  · exact acts.ready turned (.refl _)
  · exact acts.ready (acts.stallTest h) (.refl _)

/-- A processing keeps a law that survives what it adds to the acts of the node. -/
theorem StageActs.processed (acts : StageActs law) {s : State} (h : law s) (f : Frame) : law (s.processed f) := by
  have motion : law (s.throughMotion f) :=
    acts.stageMotion (acts.stageCommand (acts.stageLocate (acts.stageSwap (acts.takeOutbound h f) f) f) f _) f
  have service := (s.throughChain f).stageService_frame (s.frameThroughChain f)
  have ctrl : (s.afterService f).ctrl = (s.throughChain f).ctrl := service .ctrl (by decide)
  have served : law (s.afterService f) := acts.quiet (acts.stageChain motion f) (service .drive (by decide))
    (State.stageService_params _ _) (service .inputs (by decide)) (congrArg CtrlBlock.node ctrl)
  have ended : law (s.processFrame f).1 := by
    rw [State.processFrame_fst]
    exact acts.endStages served _ _
  have out := s.processed_frame f
  have ctrl' : (s.processed f).ctrl = (s.processFrame f).1.ctrl := out .ctrl (by decide)
  exact acts.quiet ended (out .drive (by decide)) (s.processed_params f) (out .inputs (by decide))
    (congrArg CtrlBlock.node ctrl')

theorem StageActs.keptByStep (acts : StageActs law) : State.KeptByStep law :=
  Machine.keptByStep acts.toNodeActs acts.processed

end
end Sys2Proof.Machine
end

section
/-! SUPPORT. The laws of the drive output (R132), of the resting drive (R121, R131) and of DRDY (R125): each survives
the acts of the drive and the node, and the obligation that every step keeps them. -/

namespace Sys2Proof.Machine

/-! ## The drive output (R132) -/

theorem State.DriveLaw.sameDrive {s t : State} (law : s.DriveLaw) (same : s.SameDrive t) : t.DriveLaw := by
  intro run manual
  have rests : ¬(s.ctrl.node = .run ∨ s.ctrl.node = .manual) := fun moving => by
    rw [same.node moving] at run manual
    exact moving.elim run manual
  rw [same.st]
  exact law (fun h => rests (.inl h)) fun h => rests (.inr h)

theorem State.driveLaw_stageActs : StageActs State.DriveLaw where
  same law same _ := law.sameDrive same
  ready law same := (State.takeReady_reacts _).drive (law.sameDrive same)
  still still := fun _ _ => still.1
  start law := (State.takeReady_reacts _).drive ((State.startIfDue_reacts _).drive law)
  jog law := (State.startJogIfDue_reacts _).drive law
  moveTo law n := State.moveTo_driveLaw _ n law
  started law := (State.startIfDue_reacts _).drive law
  rate law _ _ _ := law
  swap law := (State.swappedToDrive_reacts _).drive law

/-! ## The resting drive (R121, R131) -/

theorem State.restLaw_of_still {s : State} (still : s.drive.Still) : s.RestLaw := ⟨fun _ => still.2.1, still.2.2⟩

/-- A drive that runs is not idle, and owes the law its reference in DUTY mode alone. -/
theorem State.restLaw_of_running {s : State} (running : s.drive.st = .running)
    (duty : s.params.driveMode = .duty → s.drive.rateRef = 0) : s.RestLaw :=
  ⟨fun h => duty (h.resolve_left fun other => other running), fun off => by simp [running] at off⟩

theorem State.restLaw_of_starting {s : State} (starting : s.drive.st = .starting) (rate : s.drive.rateRef = 0) :
    s.RestLaw := ⟨fun _ => rate, fun off => by simp [starting] at off⟩

theorem State.RestLaw.sameDrive {s t : State} (law : s.RestLaw) (same : s.SameDrive t) : t.RestLaw := by
  obtain ⟨rate, idle⟩ := law
  refine ⟨?_, same.idle idle⟩
  rwa [same.st, same.rateRef, same.params]

theorem State.RestLaw.takeReady {s : State} (law : s.RestLaw) : s.takeReady.RestLaw := by
  obtain ⟨-, -, e⟩ | ⟨-, e⟩ := s.takeReady_cases <;> rw [e]
  · refine State.restLaw_of_running rfl fun duty => ?_
    have duty' : s.params.driveMode = .duty := duty
    simp [State.enterRunning, duty']
  · exact law

/-- A start leaves the drive STARTING, or RESTING for a period with no on-time (R123, R124, R128). -/
theorem State.RestLaw.startIfDue {s : State} (law : s.RestLaw) : s.startIfDue.RestLaw := by
  refine keeps_ite law fun _ => ?_
  split
  · obtain ⟨st, rate⟩ := s.dutyDrive_waits
    rw [← s.startDutyPeriod_drive] at st rate
    obtain resting | starting := st
    · exact State.restLaw_of_still (DriveBlock.still_of_waiting (.inl resting) rate)
    · exact State.restLaw_of_starting starting rate
  · exact State.restLaw_of_starting rfl rfl

theorem State.RestLaw.startJogIfDue {s : State} (law : s.RestLaw) : s.startJogIfDue.RestLaw := by
  refine keeps_ite law fun _ => ?_
  split
  · exact law
  · exact State.RestLaw.takeReady (State.restLaw_of_starting rfl rfl)

theorem State.restLaw_driveActs : DriveActs State.RestLaw where
  same law same _ := law.sameDrive same
  ready law same := (law.sameDrive same).takeReady
  still := State.restLaw_of_still
  start law := law.startIfDue.takeReady
  jog law := law.startJogIfDue

/-- A drive stopped for a change of DRIVE_MODE owes nothing to the reference it ran with (R135). -/
theorem State.driveStop_restLaw {s : State} (rate : s.drive.st ≠ .running → s.drive.rateRef = 0)
    (idle : s.drive.Idle) : s.driveStop.RestLaw := by
  by_cases running : s.drive.st = .running
  · have stop : s.driveStop = s.enterStopping := by simp [State.driveStop, running]
    rw [stop]
    exact State.restLaw_driveActs.enterStopping s
  · exact State.restLaw_driveActs.driveStop ⟨fun _ => rate running, idle⟩

theorem State.RestLaw.swappedToDrive {s : State} (law : s.RestLaw) : s.swappedToDrive.RestLaw := by
  obtain ⟨rate, idle⟩ := law
  by_cases mode : s.params.driveMode = s.stagingBank.params.driveMode
  · have drive := State.swappedToDrive_of_same_mode mode
    split at drive
    · next jog =>
      obtain ⟨rateMode, -, running⟩ := jog
      refine State.restLaw_of_running (by rw [drive]; exact running) fun duty => ?_
      rw [s.swappedToDrive_params, rateMode] at duty
      exact absurd duty (by decide)
    · unfold State.RestLaw
      rw [drive, s.swappedToDrive_params, ← mode]
      exact ⟨rate, idle⟩
  · rw [State.swappedToDrive_of_mode_change mode]
    refine State.driveStop_restLaw ?_ ?_ <;> rw [State.swappedToWheel_drive]
    · exact fun other => rate (.inl other)
    · exact idle

theorem State.restLaw_stageActs : StageActs State.RestLaw where
  toDriveActs := State.restLaw_driveActs
  moveTo law := State.restLaw_driveActs.moveTo_of_blind (fun law _ => law) law
  started law := law.startIfDue
  rate _ running rate _ := State.restLaw_of_running running fun duty => by simp [rate] at duty
  swap law := law.swappedToDrive

/-! ## DRDY (R125) -/

theorem State.readyLaw_of_not_starting {s : State} (h : s.drive.st ≠ .starting) : s.ReadyLaw := fun st => absurd st h

theorem State.readyLaw_driveActs : DriveActs State.ReadyLaw where
  same law same drdy := fun starting => by
    have waits := law (same.st.symm.trans starting)
    exact Bool.eq_false_iff.2 fun ready => by simp [drdy ready] at waits
  ready _ _ := State.takeReady_waits _
  still still := State.readyLaw_of_not_starting fun starting => by
    have off := still.1
    simp [starting, DriveState.energizes] at off
  start _ := State.takeReady_waits _
  jog law := keeps_ite law fun _ => by
    split
    · exact law
    · exact State.takeReady_waits _

theorem State.readyLaw_nodeActs : NodeActs State.ReadyLaw where
  toDriveActs := State.readyLaw_driveActs
  moveTo law := State.readyLaw_driveActs.moveTo_of_blind (fun law _ => law) law

/-- Settles O56: each of the three laws survives the acts of which every command is made; a processing, whose hand-over
may leave the drive STARTING with DRDY active, takes DRDY as it ends. -/
theorem driveOutputLawIsKept : Obligations.DriveOutputLawIsKept :=
  ⟨State.driveLaw_stageActs.keptByStep, State.restLaw_stageActs.keptByStep,
    keptByStep State.readyLaw_nodeActs fun {s} _ f => s.processed_waits f⟩

end Sys2Proof.Machine
end

section
/-! SUPPORT. The two banks with the pending swap and its indication (R140, R148, R153 to R155): what a service
operation, a swap and a reset do to them, and all that a step can do to them. -/

namespace Sys2Proof.Machine

/-! ## The banks as a swap sees them -/

/-- The banks by their roles, the bank that is active, the pending swap and the pending commit indication. -/
structure BankView where
  active : Profile
  staging : Profile
  activeId : BankId
  pendingSwap : Bool
  pendingCommit : Bool

/-- The banks of a state. -/
def State.banks (s : State) : BankView where
  active := s.activeBank
  staging := s.stagingBank
  activeId := s.table.active
  pendingSwap := s.table.pendingSwap
  pendingCommit := s.slot.pendingCommit

theorem State.banks_congr {s t : State} (table : t.table = s.table)
    (indication : t.slot.pendingCommit = s.slot.pendingCommit) : t.banks = s.banks := by
  simp only [State.banks, State.activeBank_congr table, State.stagingBank_congr table, table, indication]

/-- What leaves the Crossing Table and the Slot Engine leaves the banks. -/
theorem State.SameOutside.banks {s t : State} (h : State.SameOutside
    [.power, .line, .ctrl, .demand, .joint, .wheel, .drive, .events, .inputs, .lamp, .pending] s t) :
    t.banks = s.banks :=
  State.banks_congr (h .table (by decide)) (congrArg SlotBlock.pendingCommit (h .slot (by decide)))

/-- The staging bank is the one that is written (R148). -/
theorem State.withStaging_banks (s : State) (b : Profile) :
    (s.withStaging b).banks = { s.banks with staging := b } := by
  unfold State.banks State.activeBank State.stagingBank State.withStaging TableBlock.withStaging
  cases s.table.active <;> simp

/-- A lookup is no concern of the banks (R145). -/
theorem State.lookupAngle_banks (s : State) (f : Frame) : (s.lookupAngle f).banks = s.banks := by
  unfold State.lookupAngle
  split <;> rfl

/-! ## What a reset and a swap do -/

/-- The banks after a power-on, pin or HARD line reset (R42, R158). -/
def BankView.atReset : BankView where
  active := Profile.default
  staging := Profile.default
  activeId := .a
  pendingSwap := false
  pendingCommit := false

theorem State.TableAtReset.banks {s : State} (h : s.TableAtReset) : s.banks = BankView.atReset := by
  obtain ⟨bankA, bankB, active, -, -, swap, -, -, indication⟩ := h
  simp [State.banks, State.activeBank, State.stagingBank, BankView.atReset, bankA, bankB, active, swap, indication]

/-- A SOFT line reset keeps the table with its indication, every other reset puts both at their reset values (R42, R158,
R174). -/
theorem State.resetBlocks_banks (s : State) (keep : Bool) :
    (s.resetBlocks keep).banks = if keep then s.banks else BankView.atReset := by
  cases keep
  · exact s.resetBlocks_tableAtReset.banks
  · rfl

/-- The banks exchange their roles, and nothing is pending (R155). -/
def BankView.swapped (v : BankView) : BankView where
  active := v.staging
  staging := v.active
  activeId := BankId.other v.activeId
  pendingSwap := false
  pendingCommit := false

theorem State.profileSwap_bankView (s : State) : s.profileSwap.banks = s.banks.swapped := by
  obtain ⟨active, staging⟩ := s.profileSwap_banks
  have slot := s.profileSwap_slot
  simp [State.banks, BankView.swapped, active, staging, s.profileSwap_table, slot, State.swapBanks, TableBlock.swap,
    TableBlock.relook]

/-- The banks after stage 1, which swaps when a commit is pending (R24). -/
def BankView.afterStage1 (v : BankView) : BankView := if v.pendingCommit = true then v.swapped else v

theorem State.stageSwap_banks (s : State) (f : Frame) : (s.stageSwap f).banks = s.banks.afterStage1 := by
  cases pending : s.slot.pendingCommit with
  | true =>
    have due : s.banks.pendingCommit = true := pending
    rw [State.stageSwap_of_pending f pending, BankView.afterStage1, if_pos due]
    exact ((State.lampAtFrame_frame _ _).mono (by decide)).banks.trans s.profileSwap_bankView
  | false =>
    obtain ⟨same, slot⟩ := State.stageSwap_of_not_pending f pending
    rw [BankView.afterStage1, if_neg (by simp [State.banks, pending])]
    exact State.banks_congr (same .table (by decide)) (by rw [slot])

/-! ## What a service operation does -/

/-- The edits of a staging bank, beside an active one (R149 to R151). -/
inductive StagingEdit (active staging : Profile) : Profile → Prop
  | param {id : Nat} {v : Payload} {p : Params} (written : writeParamValue staging.params id v = some p) :
      StagingEdit active staging { staging with params := p }
  | entry {i : Nat} {v : Payload} {e : Sector} (index : i ≤ staging.entries.length ∧ i < 32)
      (carried : sectorOf v = some e) :
      StagingEdit active staging { staging with entries := putEntry staging.entries i e }
  | trim (n : Nat) : StagingEdit active staging { staging with entries := staging.entries.take n }
  | copy : StagingEdit active staging active

/-- What a service operation does to the banks: nothing, an edit of the staging bank, or the commit of one that passes
(R148 to R153). -/
inductive BankView.Served (v : BankView) : BankView → Prop
  | kept : v.Served v
  | edited {b : Profile} (edit : StagingEdit v.active v.staging b) : v.Served { v with staging := b }
  | committed (passes : Profile.commitable v.staging = true) :
      v.Served { v with pendingSwap := true, pendingCommit := true }

/-- Whatever a service operation does, the active bank stays (R148). -/
theorem BankView.Served.active {v w : BankView} (h : v.Served w) : w.active = v.active ∧ w.activeId = v.activeId := by
  cases h <;> exact ⟨rfl, rfl⟩

theorem BankView.Served.of_eq {v w : BankView} (h : w = v) : v.Served w := h ▸ .kept

theorem BankView.Served.of_staging {s : State} {b : Profile} (edit : StagingEdit s.activeBank s.stagingBank b) :
    s.banks.Served (s.withStaging b).banks := by
  rw [State.withStaging_banks]
  exact .edited edit

theorem State.opWriteParam_served (s : State) (item : Nat) (p : Payload) :
    s.banks.Served (s.opWriteParam item p).state.banks := by
  unfold State.opWriteParam
  (repeat' split)
  · exact .kept
  · next written => exact .of_staging (.param written)
  · exact .kept

theorem State.opWriteEntry_served (s : State) (item : Nat) (p : Payload) :
    s.banks.Served (s.opWriteEntry item p).state.banks := by
  unfold State.opWriteEntry
  split
  · next index =>
    split
    · exact .kept
    · next carried => exact .of_staging (.entry index carried)
  · exact .kept

theorem State.opTrimEntries_served (s : State) (item : Nat) (p : Payload) :
    s.banks.Served (s.opTrimEntries item p).state.banks := by
  unfold State.opTrimEntries
  split
  · exact .of_staging (.trim item)
  · exact .kept

theorem State.opCommit_served (s : State) (p : Payload) : s.banks.Served (s.opCommit p).state.banks := by
  unfold State.opCommit
  split
  · next passes => exact .committed passes
  · exact .kept

/-- The operations but 02h and 04h to 07h leave the banks (R148). -/
theorem State.operate_banks_of_not_touching {op : Byte} (h : touchesStaging op = false) (s : State) (item : Word16)
    (p : Payload) : (s.operate op item p).state.banks = s.banks := by
  simp only [touchesStaging, decide_eq_false_iff_not, not_or, not_and] at h
  unfold State.operate
  split
  case h_1 => unfold State.opReadParam; (repeat' split) <;> rfl
  case h_3 => unfold State.opReadEntry; (repeat' split) <;> rfl
  case h_8 => rfl
  case h_9 => unfold State.opReadLive; (repeat' split) <;> rfl
  case h_10 => unfold State.opLineReset; split <;> rfl
  case h_11 => rfl
  all_goals omega

theorem State.operate_served (s : State) (op : Byte) (item : Word16) (p : Payload) :
    s.banks.Served (s.operate op item p).state.banks := by
  cases touches : touchesStaging op with
  | false => exact .of_eq (s.operate_banks_of_not_touching touches item p)
  | true =>
    simp only [touchesStaging, decide_eq_true_eq] at touches
    unfold State.operate
    split
    case h_2 => exact s.opWriteParam_served _ p
    case h_4 => exact s.opWriteEntry_served _ p
    case h_5 => exact s.opTrimEntries_served _ p
    case h_6 => exact .of_staging .copy
    case h_7 => exact s.opCommit_served p
    case h_11 => exact .kept
    all_goals omega

theorem State.serve_served (s : State) (r : ServiceRecord) : s.banks.Served (s.serve r).1.banks := by
  obtain e | e := s.serve_state_cases r <;> rw [e]
  · exact .kept
  · exact s.operate_served _ _ _

/-- Stage 8 does to the banks what the operation of its record does (R34, R162). -/
theorem State.stageService_served (s : State) (f : Frame) : s.banks.Served (s.stageService f).1.banks := by
  obtain ⟨record, e | e⟩ := s.stageService_state_cases f <;> rw [e]
  · exact s.serve_served _
  · exact .kept

/-! ## What a processing does (R23) -/

theorem State.stageCommand_pendingCommit (s : State) (f : Frame) (owned : Bool) :
    (s.stageCommand f owned).slot.pendingCommit = s.slot.pendingCommit := by
  unfold State.stageCommand
  simp only
  (repeat' split) <;> simp

/-- Of stages 1 to 4 stage 1 alone reaches the banks. -/
theorem State.throughMotion_banks (s : State) (f : Frame) : (s.throughMotion f).banks = s.banks.afterStage1 := by
  have motion (a : State) : (a.stageMotion f).banks = a.banks :=
    Eq.trans (State.banks_congr (a.stageMotion_table f) (by simp)) (a.lookupAngle_banks f)
  have taken : (s.takeOutbound f).banks = s.banks := State.banks_congr (by simp) (by simp)
  rw [State.throughMotion, motion,
    State.banks_congr (State.stageCommand_table _ f _) (State.stageCommand_pendingCommit _ f _),
    State.banks_congr (State.stageLocate_table _ f) (by simp), State.stageSwap_banks, taken]

theorem State.throughChain_banks (s : State) (f : Frame) : (s.throughChain f).banks = s.banks.afterStage1 := by
  have chain (a : State) : (a.stageChain f).slot.pendingCommit = a.slot.pendingCommit := by
    unfold State.stageChain
    split <;> simp
  rw [State.throughChain, State.banks_congr (State.stageChain_table _ f) (chain _), State.throughMotion_banks]

/-- A processing swaps when a commit is pending and then does what the record of its frame asks for (R23, R24, R34). -/
theorem State.processed_served (s : State) (f : Frame) : s.banks.afterStage1.Served (s.processed f).banks := by
  have sent : (s.processed f).banks = (s.processFrame f).1.banks := ((s.processed_frame f).mono (by decide)).banks
  have ended : (s.processFrame f).1.banks = (s.afterService f).banks := by
    refine State.banks_congr (s.processFrame_frame f .table (by decide)) ?_
    obtain ⟨-, indication⟩ := (s.afterService f).endStages_slot ((s.throughMotion f).outgoingCeiling f)
      (frameChainOpen (s.frameThroughChain f))
    rw [State.processFrame_fst, indication]
  rw [sent, ended, ← s.throughChain_banks f]
  exact State.stageService_served _ _

/-! ## All that a step does -/

/-- All that a step does to the banks: nothing, a reset, a service operation with no swap pending, or a processing. -/
inductive BankView.Step (v : BankView) : BankView → Prop
  | kept : v.Step v
  | reset : v.Step BankView.atReset
  | served {w : BankView} (idle : v.pendingSwap = false) (h : v.Served w) : v.Step w
  | processed {w : BankView} (h : v.afterStage1.Served w) : v.Step w

theorem BankView.Step.of_eq {v w : BankView} (h : w = v) : v.Step w := h ▸ .kept

/-- A command that acts on a condition does to the banks nothing or what its act does. -/
theorem BankView.Step.ite {s t : State} {p : Prop} [Decidable p] (h : p → s.banks.Step t.banks) :
    s.banks.Step (if p then t else s).banks := by
  split
  · next hp => exact h hp
  · exact .kept

/-- The same of a command that acts when a condition fails. -/
theorem BankView.Step.iteNot {s t : State} {p : Prop} [Decidable p] (h : ¬p → s.banks.Step t.banks) :
    s.banks.Step (if p then s else t).banks := by
  split
  · exact .kept
  · next hp => exact h hp

theorem BankView.Step.of_reset {v : BankView} {t : State} (h : t.TableAtReset) : v.Step t.banks := by
  rw [h.banks]
  exact .reset

/-- An operation that reaches the staging bank finds no swap pending (R148, log 9). -/
theorem State.serveCommand_bankStep (s : State) (op : Byte) (q : Request) :
    s.banks.Step (s.serveCommand op q).banks := by
  refine .ite fun ⟨_, free⟩ => ?_
  cases touches : touchesStaging op with
  | true => exact .served (by simpa [touches, State.banks] using free) (s.serve_served (recordOf op q))
  | false =>
    refine .of_eq (Eq.trans (b := (s.serve (recordOf op q)).1.banks) rfl ?_)
    obtain e | e := s.serve_state_cases (recordOf op q) <;> rw [e]
    exact s.operate_banks_of_not_touching touches _ _

theorem execInboundTake_bankStep {s t : State} (h : execInboundTake s = .next t) : s.banks.Step t.banks := by
  obtain rfl := Host.Outcome.next.inj h
  refine .ite fun _ => ?_
  split
  · next f _ =>
    refine .of_eq (State.banks_congr (s.takeInbound_table f) ?_)
    unfold State.takeInbound State.acceptReturn
    simp only
    split <;> simp [State.latchInbound_slot]
  · exact .kept
  · exact .kept

theorem execOutboundProcessing_bankStep {s t : State} (h : execOutboundProcessing s = .next t) :
    s.banks.Step t.banks := by
  obtain rfl := Host.Outcome.next.inj h
  refine .ite fun _ => ?_
  split
  · exact .processed (s.processed_served _)
  · exact .kept
  · exact .kept

theorem execLineResetEffect_bankStep {s t : State} (h : execLineResetEffect s = .next t) : s.banks.Step t.banks := by
  obtain rfl := Host.Outcome.next.inj h
  refine .ite fun _ => ?_
  split
  · exact .kept
  · next k _ =>
    rw [State.resetBlocks_banks]
    cases k
    · exact .reset
    · exact .kept

/-- All that a command does to the banks: no command but a reset, a service command and a processing reaches them. -/
theorem exec_bankStep {c : Instr} {s t : State} (h : exec c s = .next t) : s.banks.Step t.banks := by
  cases c
  case inboundTake => exact execInboundTake_bankStep h
  case outboundProcessing => exact execOutboundProcessing_bankStep h
  case lineResetEffect => exact execLineResetEffect_bankStep h
  all_goals obtain rfl := Host.Outcome.next.inj h
  case powerOnReset => exact .iteNot fun _ => .of_reset s.resetBlocks_tableAtReset
  case supplyLoss => exact .ite fun _ => .of_reset s.resetBlocks_tableAtReset
  case initialisationEnd => exact .ite fun _ => .of_reset (State.resetBlocks_tableAtReset _)
  case pinReset => exact .of_reset s.resetBlocks_tableAtReset
  case readParam | writeParam | readEntry | writeEntry | trimEntries | stageFromActive | commit | setEvents | readLive
      | lineReset =>
    exact s.serveCommand_bankStep _ _
  case unknownOp => exact .iteNot fun _ => s.serveCommand_bankStep _ _
  all_goals exact .ite fun _ => .of_eq (State.banks_congr (by simp) (by simp))

theorem step_bankStep {s t : State} (h : step s = .next t) : s.banks.Step t.banks := by
  cases pending : s.pending with
  | nil =>
    rw [step, pending] at h
    obtain rfl := Host.Outcome.next.inj h
    exact .kept
  | cons c rest =>
    rw [step_cons s c rest pending] at h
    exact exec_bankStep (s := s.withPending rest) h

end Sys2Proof.Machine
end

section
/-! SUPPORT. The laws of the banks at every step (R141, R143, R144, R148, R152 to R155): the active list lawful and a
pending staging bank validated, both banks within the ranges, a pending staging bank unchanged. Each law is read from
the banks alone, so it is proved by the cases of what a step does to them. -/

namespace Sys2Proof.Machine

/-! ## The law of the active list (R144, R148, R152 to R155) -/

/-- The indication and the pending swap stand together, the active list is lawful, a pending staging bank has passed. -/
def BankView.Lawful (v : BankView) : Prop :=
  v.pendingCommit = v.pendingSwap ∧ listLawful v.active.entries = true
    ∧ (v.pendingSwap = true → Profile.commitable v.staging = true)

theorem State.tableLaw_iff_banks (s : State) : s.TableLaw ↔ s.banks.Lawful := Iff.rfl

theorem Profile.listLawful_of_commitable {b : Profile} (h : Profile.commitable b = true) :
    listLawful b.entries = true := by
  simp only [Profile.commitable, Bool.and_eq_true] at h
  exact h.2

/-- With the two standing together nothing is pending after stage 1: what was pending has been swapped (R24, R155). -/
theorem BankView.afterStage1_idle {v : BankView} (h : v.pendingCommit = v.pendingSwap) :
    v.afterStage1.pendingSwap = false := by
  unfold BankView.afterStage1
  split
  · rfl
  · next idle => simpa [h] using idle

/-- A swap makes active the list that its commit found lawful. -/
theorem BankView.Lawful.afterStage1 {v : BankView} (law : v.Lawful) : v.afterStage1.Lawful := by
  obtain ⟨together, list, passed⟩ := law
  unfold BankView.afterStage1
  split
  · next pending =>
    exact ⟨rfl, Profile.listLawful_of_commitable (passed (together.symm.trans pending)), nofun⟩
  · exact ⟨together, list, passed⟩

/-- With no swap pending the staging bank is free, and a commit lets pass only what it has validated. -/
theorem BankView.Served.lawful {v w : BankView} (h : v.Served w) (idle : v.pendingSwap = false) (law : v.Lawful) :
    w.Lawful := by
  obtain ⟨together, list, passed⟩ := law
  cases h with
  | kept => exact ⟨together, list, passed⟩
  | edited edit => exact ⟨together, list, fun pending => by simp [idle] at pending⟩
  | committed passes => exact ⟨rfl, list, fun _ => passes⟩

theorem BankView.Step.lawful {v w : BankView} (h : v.Step w) (law : v.Lawful) : w.Lawful := by
  cases h with
  | kept => exact law
  | reset => exact ⟨rfl, rfl, nofun⟩
  | served idle h => exact h.lawful idle law
  | processed h => exact h.lawful (BankView.afterStage1_idle law.1) law.afterStage1

/-- Settles O58: the law is read from the banks, and every case of what a step does to them keeps it. -/
theorem banksStayLawful : Obligations.BanksStayLawful := fun s t law next =>
  t.tableLaw_iff_banks.2 ((step_bankStep next).lawful (s.tableLaw_iff_banks.1 law))

/-! ## The frozen staging bank (R148) -/

theorem BankId.other_ne (x : BankId) : BankId.other x ≠ x := by
  cases x <;> nofun

/-- From a pending swap a step leaves the banks, resets them or swaps them; the last two end the swap or change the
active bank. -/
theorem BankView.Step.staging_of_pending {v w : BankView} (h : v.Step w) (together : v.pendingCommit = v.pendingSwap)
    (pending : v.pendingSwap = true) (pending' : w.pendingSwap = true) (same : w.activeId = v.activeId) :
    w.staging = v.staging := by
  cases h with
  | kept => rfl
  | reset => cases pending'
  | served idle => simp [pending] at idle
  | processed h =>
    obtain ⟨-, active⟩ := h.active
    rw [BankView.afterStage1, if_pos (together.trans pending), same] at active
    exact absurd active.symm (BankId.other_ne _)

/-- Settles O53: the banks alone decide it, by the cases of what a step does to them. -/
theorem pendingSwapFreezesStaging : Obligations.PendingSwapFreezesStaging :=
  fun _ _ together next pending pending' same => (step_bankStep next).staging_of_pending together pending pending' same

/-! ## The ranges of a payload (R141, R143, R164) -/

theorem patternOf_inRange {v : Payload} {x : LampPattern} (h : patternOf v = some x) : LampPattern.InRange x := by
  obtain ⟨admitted, e⟩ := Option.ite_none_right_eq_some.1 h
  obtain rfl := Option.some.inj e
  exact admitted

/-- A parameter set that is there only when its value is admitted, as `ranged` gives it. -/
theorem Params.InRange.of_ite {admitted : Prop} [Decidable admitted] {p q : Params}
    (written : (if admitted then some p else none) = some q) (keep : admitted → Params.InRange p) :
    Params.InRange q := by
  obtain ⟨h, e⟩ := Option.ite_none_right_eq_some.1 written
  obtain rfl := Option.some.inj e
  exact keep h

/-- A parameter set that is there only when the choice, set or pattern of its value is. -/
theorem Params.InRange.of_map {α : Type} {x : Option α} {f : α → Params} {q : Params} (written : x.map f = some q)
    (keep : ∀ {a}, x = some a → Params.InRange (f a)) : Params.InRange q := by
  obtain ⟨a, h, rfl⟩ := Option.map_eq_some_iff.1 written
  exact keep h

/-- What WRITE_PARAM lets through lies in its range (R151): of a bank in range the one parameter is replaced. -/
theorem writeParamValue_inRange {p q : Params} {id : Nat} {v : Payload} (range : Params.InRange p)
    (written : writeParamValue p id v = some q) : Params.InRange q := by
  unfold writeParamValue at written
  split at written
  case h_1 => exact .of_ite written fun h => { range with radius := .inr h }
  case h_2 => exact .of_ite written fun h => { range with vmax := .inr h }
  case h_3 => exact .of_ite written fun h => { range with reserve := h }
  case h_4 => exact .of_ite written fun h => { range with gain := h }
  case h_5 => exact .of_ite written fun h => { range with deadband := h }
  case h_6 => exact .of_ite written fun h => { range with jointSpan := h }
  case h_7 => exact .of_ite written fun h => { range with jointOffset := h }
  case h_8 => exact .of_ite written fun h => { range with jointPeriodMin := h }
  case h_9 => exact .of_ite written fun h => { range with jointPeriodMax := h }
  case h_10 => exact .of_ite written fun h => { range with warnLimit := h }
  case h_11 => exact .of_ite written fun h => { range with safetyLimit := h }
  case h_12 => exact .of_ite written fun h => { range with holdLimit := h }
  case h_13 => exact .of_ite written fun h => { range with teeth := h }
  case h_14 => exact .of_ite written fun h => { range with circumference := h }
  case h_15 => exact .of_ite written fun h => { range with stallTicks := h }
  case h_16 => exact .of_ite written fun h => { range with dragThreshold := h }
  case h_17 => exact .of_map written fun _ => { range with }
  case h_18 => exact .of_ite written fun h => { range with dutyPeriod := h }
  case h_19 => exact .of_ite written fun h => { range with minOn := h }
  case h_20 => exact .of_ite written fun h => { range with minOff := h }
  case h_21 => exact .of_ite written fun h => { range with startTimeout := h }
  case h_22 => exact .of_ite written fun h => { range with stopTime := h }
  case h_23 => exact .of_ite written fun h => { range with cyclePeriod := h }
  case h_24 => exact .of_ite written fun h => { range with linkMissLimit := h }
  case h_25 => exact .of_ite written fun h => { range with returnMissLimit := h }
  case h_26 | h_27 => cases written; exact { range with }
  case h_28 | h_29 => exact .of_map written fun _ => { range with }
  case h_30 => exact .of_map written fun h => { range with lampRun := patternOf_inRange h }
  case h_31 => exact .of_map written fun h => { range with lampHold := patternOf_inRange h }
  case h_32 => exact .of_map written fun h => { range with lampFault := patternOf_inRange h }
  case h_33 => exact .of_map written fun h => { range with lampSector := patternOf_inRange h }
  case h_34 => exact .of_ite written fun h => { range with jogDemand := h }
  case h_35 => cases written

theorem actionOf_eq_some_iff {b : Byte} {a : SectorAction} : actionOf b = some a ↔ b = SectorAction.code a := by
  revert b
  cases a <;> decide

/-- A payload carries an entry and its fields lie in range exactly when WRITE_ENTRY takes that entry from it (R149,
R164). -/
theorem sectorOf_eq_some_iff {v : Payload} {e : Sector} :
    sectorOf v = some e ↔ CarriesEntry v e ∧ Sector.InRange e := by
  constructor
  · intro h
    unfold sectorOf at h
    split at h
    · cases h
    · next a action =>
      obtain ⟨⟨start, stop, differ, factor⟩, e⟩ := Option.ite_none_right_eq_some.1 h
      obtain rfl := Option.some.inj e
      exact ⟨⟨actionOf_eq_some_iff.1 action, rfl, rfl, rfl⟩, ⟨start, stop, differ, factor⟩⟩
  · intro ⟨⟨action, start, stop, factor⟩, range⟩
    have admitted : Payload.number v < 36000 ∧ Payload.number2 v < 36000 ∧ Payload.number v ≠ Payload.number2 v
        ∧ Payload.number3 v ≤ 1000 := by
      rw [Payload.number, Payload.number2, Payload.number3, start, stop, factor]
      exact ⟨range.start, range.stop, range.differ, range.factor⟩
    simp only [sectorOf, actionOf_eq_some_iff.2 action, if_pos admitted]
    simp only [Payload.number, Payload.number2, Payload.number3, start, stop, factor]

/-! ## The ranges at every step (R141, R143, R149) -/

theorem Params.default_inRange : Params.InRange Params.default := by
  constructor <;> simp [inRange, LampPattern.InRange, Params.default, defaultLampRun, defaultLampHold, defaultLampFault,
    defaultLampSector]

theorem Profile.default_inRange : Profile.InRange Profile.default where
  params := Params.default_inRange
  entries := by simp [Profile.default]
  count := by simp [Profile.default]

theorem mem_putEntry {es : List Sector} {i : Nat} {e x : Sector} (h : x ∈ putEntry es i e) : x ∈ es ∨ x = e := by
  unfold putEntry at h
  split at h
  · exact List.mem_or_eq_of_mem_set h
  · simpa using h

/-- An entry overwritten keeps the count, one appended raises it by 1 (R149). -/
theorem length_putEntry (es : List Sector) (i : Nat) (e : Sector) :
    (putEntry es i e).length = if i < es.length then es.length else es.length + 1 := by
  unfold putEntry
  split <;> simp

/-- An edit of a staging bank within the ranges, beside an active one within them, gives such a bank. -/
theorem StagingEdit.inRange {active staging b : Profile} (edit : StagingEdit active staging b)
    (hactive : Profile.InRange active) (hstaging : Profile.InRange staging) : Profile.InRange b := by
  cases edit with
  | param written => exact { hstaging with params := writeParamValue_inRange hstaging.params written }
  | @entry i v e index carried =>
    obtain ⟨-, range⟩ := sectorOf_eq_some_iff.1 carried
    refine ⟨hstaging.params, fun x hx => ?_, ?_⟩
    · obtain hx | rfl := mem_putEntry hx
      · exact hstaging.entries x hx
      · exact range
    · have := hstaging.count
      simp only [length_putEntry]
      split <;> omega
  | trim n =>
    refine ⟨hstaging.params, fun x hx => hstaging.entries x (List.mem_of_mem_take hx), ?_⟩
    exact (List.length_take_le' n _).trans hstaging.count
  | copy => exact hactive

/-- Both banks lie within the ranges. -/
def BankView.InRange (v : BankView) : Prop := Profile.InRange v.active ∧ Profile.InRange v.staging

theorem State.rangeLaw_iff_banks (s : State) : s.RangeLaw ↔ s.banks.InRange := by
  unfold State.RangeLaw BankView.InRange State.banks State.activeBank State.stagingBank
  cases s.table.active
  · exact Iff.rfl
  · exact and_comm

theorem BankView.Served.inRange {v w : BankView} (h : v.Served w) (range : v.InRange) : w.InRange := by
  obtain ⟨active, staging⟩ := range
  cases h with
  | kept => exact ⟨active, staging⟩
  | edited edit => exact ⟨active, edit.inRange active staging⟩
  | committed => exact ⟨active, staging⟩

theorem BankView.Step.inRange {v w : BankView} (h : v.Step w) (range : v.InRange) : w.InRange := by
  cases h with
  | kept => exact range
  | reset => exact ⟨Profile.default_inRange, Profile.default_inRange⟩
  | served _ h => exact h.inRange range
  | processed h =>
    refine h.inRange ?_
    unfold BankView.afterStage1
    split
    · exact range.symm
    · exact range

/-- Settles O59: the law is read from the banks, and every case of what a step does to them keeps it. -/
theorem profilesStayInRange : Obligations.ProfilesStayInRange := fun s t law next =>
  t.rangeLaw_iff_banks.2 ((step_bankStep next).inRange (s.rangeLaw_iff_banks.1 law))

end Sys2Proof.Machine
end

section
/-! SUPPORT. The commands that edit the staging bank and the commit that judges it (R142, R144, R148 to R154, R166 to
R168): which parameter WRITE_PARAM writes, the law of the active list by the entries' indices, and the obligations about
them. -/

namespace Sys2Proof.Machine

/-! ## A service command that reaches the node by its index (R160) -/

theorem State.addressed_of_reached {s : State} {q : Request} (h : s.ReachedBy q) : s.addressed q.target = true := by
  obtain ⟨-, -, low, high, target⟩ := h
  simp [State.addressed, State.indexValid, validIndex, State.indexNat, low, high, target]

/-- A command addressed by index, and free to reach the banks, does its operation and is answered (R160, R161, log
8). -/
theorem exec_of_reached {op : Byte} {c : Instr} {q : Request} {s : State} (hc : (op, c) ∈ serviceCommands q)
    (h : s.ReachedBy q) (free : s.table.pendingSwap = false) : exec c s = .next
      ((s.operate op q.item q.payload).state.answered op q (s.operate op q.item q.payload).result
        (s.operate op q.item q.payload).payload) := by
  have addressed : s.addressed (recordOf op q).target = true := State.addressed_of_reached h
  obtain ⟨released, waiting, -⟩ := h
  rw [exec_serviceCommands hc, State.serveCommand, if_pos ⟨State.stagesRun_of released waiting, by simp [free]⟩,
    State.serve, if_pos addressed]
  rfl

/-! ## The values WRITE_PARAM admits (R151, R164, R166) -/

theorem filterOf_isSome (b : Byte) : (filterOf b).isSome = true ↔ b.toNat < 3 := by
  revert b
  decide

theorem driveModeOf_isSome (b : Byte) : (driveModeOf b).isSome = true ↔ b.toNat < 2 := by
  revert b
  decide

theorem auxEdgeOf_isSome (b : Byte) : (auxEdgeOf b).isSome = true ↔ b.toNat < 3 := by
  revert b
  decide

theorem patternOf_isSome (v : Payload) : (patternOf v).isSome = true ↔ ValueAdmitted.PatternAdmitted v := by
  simp [patternOf, ValueAdmitted.PatternAdmitted, inRange]

theorem filtersOf_isSome (v : Payload) : (filtersOf v).isSome = true ↔ v.b2.toNat < 3 ∧ v.b3.toNat < 3
    ∧ v.b4.toNat < 3 ∧ v.b5.toNat < 3 ∧ v.b6.toNat < 3 ∧ v.b7.toNat < 3 := by
  simp only [← filterOf_isSome, filtersOf]
  split
  · simp [*]
  · next refused =>
    simp only [Option.isSome_iff_exists]
    refine ⟨nofun, ?_⟩
    rintro ⟨⟨_, a⟩, ⟨_, b⟩, ⟨_, c⟩, ⟨_, d⟩, ⟨_, e⟩, ⟨_, f⟩⟩
    exact (refused _ _ _ _ _ _ a b c d e f).elim

theorem isSome_ite_some {admitted : Prop} [Decidable admitted] (p : Params) :
    (if admitted then some p else none).isSome = true ↔ admitted := by
  split <;> simp [*]

/-- WRITE_PARAM takes exactly the values its parameter admits (R151, R166). -/
theorem writeParamValue_isSome (p : Params) (id : Nat) (v : Payload) :
    (writeParamValue p id v).isSome = true ↔ ValueAdmitted id v := by
  unfold writeParamValue ValueAdmitted
  split
  case h_35 => simp
  case h_26 | h_27 => simp
  case h_17 | h_28 | h_29 | h_30 | h_31 | h_32 | h_33 =>
    simp [driveModeOf_isSome, auxEdgeOf_isSome, patternOf_isSome, filtersOf_isSome]
  all_goals exact isSome_ite_some _

/-! ## The one parameter WRITE_PARAM writes (R151) -/

/-- `p` with parameter `id` taken from `new` (R141). -/
def Params.replaced (id : Nat) (new p : Params) : Params where
  radius := if id = 1 then new.radius else p.radius
  vmax := if id = 2 then new.vmax else p.vmax
  reserve := if id = 3 then new.reserve else p.reserve
  gain := if id = 4 then new.gain else p.gain
  deadband := if id = 5 then new.deadband else p.deadband
  jointSpan := if id = 6 then new.jointSpan else p.jointSpan
  jointOffset := if id = 7 then new.jointOffset else p.jointOffset
  jointPeriodMin := if id = 8 then new.jointPeriodMin else p.jointPeriodMin
  jointPeriodMax := if id = 9 then new.jointPeriodMax else p.jointPeriodMax
  warnLimit := if id = 10 then new.warnLimit else p.warnLimit
  safetyLimit := if id = 11 then new.safetyLimit else p.safetyLimit
  holdLimit := if id = 12 then new.holdLimit else p.holdLimit
  teeth := if id = 13 then new.teeth else p.teeth
  circumference := if id = 14 then new.circumference else p.circumference
  stallTicks := if id = 15 then new.stallTicks else p.stallTicks
  dragThreshold := if id = 16 then new.dragThreshold else p.dragThreshold
  driveMode := if id = 17 then new.driveMode else p.driveMode
  dutyPeriod := if id = 18 then new.dutyPeriod else p.dutyPeriod
  minOn := if id = 19 then new.minOn else p.minOn
  minOff := if id = 20 then new.minOff else p.minOff
  startTimeout := if id = 21 then new.startTimeout else p.startTimeout
  stopTime := if id = 22 then new.stopTime else p.stopTime
  cyclePeriod := if id = 23 then new.cyclePeriod else p.cyclePeriod
  linkMissLimit := if id = 24 then new.linkMissLimit else p.linkMissLimit
  returnMissLimit := if id = 25 then new.returnMissLimit else p.returnMissLimit
  tripEnables := if id = 26 then new.tripEnables else p.tripEnables
  inputPolarity := if id = 27 then new.inputPolarity else p.inputPolarity
  inputFilter := if id = 28 then new.inputFilter else p.inputFilter
  auxEdge := if id = 29 then new.auxEdge else p.auxEdge
  lampRun := if id = 30 then new.lampRun else p.lampRun
  lampHold := if id = 31 then new.lampHold else p.lampHold
  lampFault := if id = 32 then new.lampFault else p.lampFault
  lampSector := if id = 33 then new.lampSector else p.lampSector
  jogDemand := if id = 34 then new.jogDemand else p.jogDemand

/-- A parameter whose id is not the replaced one reads as before (R165). -/
theorem readParamValue_replaced {id i : Nat} (h : i ≠ id) (new p : Params) (v : Payload) :
    readParamValue (Params.replaced id new p) i v = readParamValue p i v := by
  unfold readParamValue
  split
  case h_35 => rfl
  all_goals simp [Params.replaced, h.symm]

theorem writeParamValue_replaces {p q : Params} {id : Nat} {v : Payload} (written : writeParamValue p id v = some q) :
    q = Params.replaced id q p := by
  unfold writeParamValue at written
  split at written
  case h_35 => cases written
  case h_17 | h_28 | h_29 | h_30 | h_31 | h_32 | h_33 =>
    obtain ⟨_, -, rfl⟩ := Option.map_eq_some_iff.1 written
    rfl
  case h_26 | h_27 => cases written; rfl
  all_goals
    obtain ⟨-, e⟩ := Option.ite_none_right_eq_some.1 written
    obtain rfl := Option.some.inj e
    rfl

/-! ## WRITE_PARAM (R151, R166) -/

theorem paramIdValid_iff (id : Nat) : paramIdValid id = true ↔ inRange 1 34 id :=
  decide_eq_true_iff

theorem State.opWriteParam_of_unknown {item : Nat} (h : ¬inRange 1 34 item) (s : State) (v : Payload) :
    s.opWriteParam item v = refuse s v resultUnknownItem := by
  simp [State.opWriteParam, paramIdValid_iff, h]

theorem State.opWriteParam_of_refused {s : State} {item : Nat} {v : Payload} (known : inRange 1 34 item)
    (h : ¬ValueAdmitted item v) : s.opWriteParam item v = refuse s v resultRange := by
  have absent : writeParamValue s.stagingBank.params item v = none := by
    rwa [← writeParamValue_isSome s.stagingBank.params, Option.not_isSome_iff_eq_none] at h
  simp [State.opWriteParam, paramIdValid_iff, known, absent]

theorem State.opWriteParam_of_written {s : State} {item : Nat} {v : Payload} {p : Params} (known : inRange 1 34 item)
    (h : writeParamValue s.stagingBank.params item v = some p) : s.opWriteParam item v =
      { state := s.withStaging { s.stagingBank with params := p }, result := resultDone, payload := v } := by
  simp [State.opWriteParam, paramIdValid_iff, known, h]

/-- Settles O44: WRITE_PARAM takes the values its parameter admits, and replaces that parameter alone. -/
theorem writeParamEditsStaging : Obligations.WriteParamEditsStaging := by
  intro q s h free
  have run := exec_of_reached (op := 0x02#8) (c := .writeParam q) (by simp [serviceCommands]) h free
  have operate : s.operate 0x02#8 q.item q.payload = s.opWriteParam q.item.toNat q.payload := rfl
  rw [run, operate]
  refine ⟨fun unknown => ?_, fun known refused => ?_, fun known admitted => ?_⟩
  · rw [State.opWriteParam_of_unknown unknown]
    rfl
  · rw [State.opWriteParam_of_refused known refused]
    rfl
  · obtain ⟨p, written⟩ := Option.isSome_iff_exists.1 ((writeParamValue_isSome s.stagingBank.params _ _).2 admitted)
    refine ⟨p, ?_, written, fun id v _ other => ?_⟩
    · rw [State.opWriteParam_of_written known written]
      rfl
    · rw [writeParamValue_replaces written]
      exact readParamValue_replaced other p _ v

/-! ## WRITE_ENTRY and TRIM_ENTRIES (R149, R150) -/

theorem State.opWriteEntry_of_outside {s : State} {item : Nat} (h : s.stagingBank.entries.length < item ∨ 32 ≤ item)
    (v : Payload) : s.opWriteEntry item v = refuse s v resultIndex := by
  rw [State.opWriteEntry, if_neg (by omega)]

theorem State.opWriteEntry_of_refused {s : State} {item : Nat} {v : Payload}
    (index : item ≤ s.stagingBank.entries.length ∧ item < 32) (h : ∀ e, CarriesEntry v e → ¬Sector.InRange e) :
    s.opWriteEntry item v = refuse s v resultRange := by
  have absent : sectorOf v = none := Option.eq_none_iff_forall_ne_some.2 fun e taken =>
    have ⟨carried, range⟩ := sectorOf_eq_some_iff.1 taken
    h e carried range
  simp [State.opWriteEntry, index, absent]

theorem State.opWriteEntry_of_carried {s : State} {item : Nat} {v : Payload} {e : Sector}
    (index : item ≤ s.stagingBank.entries.length ∧ item < 32) (carried : CarriesEntry v e) (range : Sector.InRange e) :
    s.opWriteEntry item v =
      { state := s.withStagedEntries (putEntry s.stagingBank.entries item e), result := resultDone, payload := v } := by
  have taken := sectorOf_eq_some_iff.2 ⟨carried, range⟩
  simp [State.opWriteEntry, State.withStagedEntries, index, taken]

theorem putEntry_of_lt {es : List Sector} {i : Nat} (h : i < es.length) (e : Sector) : putEntry es i e = es.set i e :=
  if_pos h

theorem putEntry_at_length (es : List Sector) (e : Sector) : putEntry es es.length e = es ++ [e] :=
  if_neg (Nat.lt_irrefl _)

theorem State.opTrimEntries_of_within {s : State} {item : Nat} (h : item ≤ s.stagingBank.entries.length) (v : Payload) :
    s.opTrimEntries item v =
      { state := s.withStagedEntries (s.stagingBank.entries.take item), result := resultDone, payload := v } :=
  if_pos h

theorem State.opTrimEntries_of_outside {s : State} {item : Nat} (h : s.stagingBank.entries.length < item)
    (v : Payload) : s.opTrimEntries item v = refuse s v resultIndex :=
  if_neg (Nat.not_le.2 h)

/-- Settles O46: the index first, then the payload, which carries an entry in range exactly when one is taken from
it. -/
theorem stagingListIsEdited : Obligations.StagingListIsEdited := by
  refine ⟨fun q s h free => ?_, fun q s h free => ?_⟩
  · have run := exec_of_reached (op := 0x04#8) (c := .writeEntry q) (by simp [serviceCommands]) h free
    have operate : s.operate 0x04#8 q.item q.payload = s.opWriteEntry q.item.toNat q.payload := rfl
    rw [run, operate]
    refine ⟨fun outside => ?_, fun low high refused => ?_,
      fun e carried range => ⟨fun low high => ?_, fun last high => ?_⟩⟩
    · rw [State.opWriteEntry_of_outside outside]
      rfl
    · rw [State.opWriteEntry_of_refused ⟨low, high⟩ refused]
      rfl
    · rw [State.opWriteEntry_of_carried ⟨low.le, high⟩ carried range, putEntry_of_lt low]
      rfl
    · rw [last, State.opWriteEntry_of_carried ⟨le_rfl, high⟩ carried range, putEntry_at_length]
      rfl
  · have trim := exec_of_reached (op := 0x05#8) (c := .trimEntries q) (by simp [serviceCommands]) h free
    have copy := exec_of_reached (op := 0x06#8) (c := .stageFromActive q) (by simp [serviceCommands]) h free
    have operate : s.operate 0x05#8 q.item q.payload = s.opTrimEntries q.item.toNat q.payload := rfl
    rw [trim, operate]
    refine ⟨fun within => ?_, fun outside => ?_, copy⟩
    · rw [State.opTrimEntries_of_within within]
      rfl
    · rw [State.opTrimEntries_of_outside outside]
      rfl

/-! ## The commit (R142, R144, R152) -/

/-- The tests of R144 from one entry on, by the indices: each entry but the last is plain and ends before the next
begins, and the last is plain or ends before entry 0 begins. -/
theorem orderedFrom_iff (first : Nat) (es : List Sector) : orderedFrom first es = true ↔
    (∀ i a b, es[i]? = some a → es[i + 1]? = some b → a.start < a.stop ∧ a.stop ≤ b.start)
      ∧ ∀ z, es.getLast? = some z → z.start < z.stop ∨ z.stop ≤ first := by
  induction es using orderedFrom.induct with
  | case1 => simp [orderedFrom]
  | case2 e => simp [orderedFrom, Sector.plain]
  | case3 e e' es ih =>
    simp only [orderedFrom, Bool.and_eq_true, decide_eq_true_eq, ih, Sector.plain, List.getLast?_cons_cons]
    constructor
    · intro ⟨head, tail, last⟩
      refine ⟨fun i a b ha hb => ?_, last⟩
      cases i with
      | zero => simp_all
      | succ i => exact tail i a b ha hb
    · intro ⟨pairs, last⟩
      exact ⟨pairs 0 e e' rfl rfl, fun i => pairs (i + 1), last⟩

theorem listLawful_iff (es : List Sector) : listLawful es = true ↔ ActiveListLaw es := by
  cases es with
  | nil => simp [listLawful, ActiveListLaw]
  | cons e es =>
    have closing : (∀ a z, (e :: es)[0]? = some a → (e :: es).getLast? = some z → z.start < z.stop ∨ z.stop ≤ a.start)
        ↔ ∀ z, (e :: es).getLast? = some z → z.start < z.stop ∨ z.stop ≤ e.start :=
      ⟨fun h z => h e z rfl, fun h a z first => by cases first; exact h z⟩
    rw [listLawful, ActiveListLaw, closing, Bool.and_eq_true, decide_eq_true_eq, orderedFrom_iff, and_comm]

theorem Profile.commitable_iff (b : Profile) : Profile.commitable b = true ↔ CommitPasses b := by
  simp [Profile.commitable, CommitPasses, Params.complete, listLawful_iff, and_assoc]

/-- Settles O47: the validation is that of R142 and R144, and COMMIT does what it decides. -/
theorem commitJudgesStagingBank : Obligations.CommitJudgesStagingBank := by
  intro q s h free
  have run := exec_of_reached (op := 0x07#8) (c := .commit q) (by simp [serviceCommands]) h free
  have operate : s.operate 0x07#8 q.item q.payload = s.opCommit q.payload := rfl
  rw [run, operate, State.opCommit, ← Profile.commitable_iff]
  refine ⟨fun passes => ?_, fun fails => ?_⟩
  · rw [if_pos passes]
    rfl
  · rw [if_neg fails]
    rfl

end Sys2Proof.Machine
end

section
/-! SUPPORT. The service records by the way they come (R160 to R163): what reaches the node by its index, by broadcast
and not at all; the operations that read, set the events or order a reset (R165, R167, R169 to R172), and the
obligations about them. -/

namespace Sys2Proof.Machine

/-! ## Addressing (R160, R161) -/

/-- A record can be handled where the stages run, and one that touches the staging bank with no swap pending (R22,
R148). -/
theorem State.serveCommand_of_free {s : State} {op : Byte} (released : s.released = true)
    (waiting : s.line.waitingReset = none) (free : touchesStaging op = false ∨ s.table.pendingSwap = false)
    (q : Request) : s.serveCommand op q =
      (s.serve (recordOf op q)).1.withSlot
        { (s.serve (recordOf op q)).1.slot with record := some (s.serve (recordOf op q)).2 } := by
  have handled : ¬(touchesStaging op = true ∧ s.table.pendingSwap = true) := by
    obtain h | h := free <;> simp [h]
  rw [State.serveCommand, if_pos ⟨State.stagesRun_of released waiting, handled⟩]

/-- A record addressed by index: the operation's state, result and payload (R161). -/
theorem State.serveCommand_of_reached {s t : State} {op result : Byte} {q : Request} {p : Payload} (h : s.ReachedBy q)
    (free : touchesStaging op = false ∨ s.table.pendingSwap = false)
    (answer : s.operate op q.item q.payload = { state := t, result := result, payload := p }) :
    s.serveCommand op q = t.answered op q result p := by
  have served : s.serve (recordOf op q) = (t, { recordOf op q with result := result, payload := p }) := by
    simp [State.serve, recordOf, State.addressed_of_reached h, answer]
  obtain ⟨released, waiting, -⟩ := h
  rw [State.serveCommand_of_free released waiting free, served]
  rfl

/-- A record that reaches the node by broadcast: the operation's state, the record as sent (R161). -/
theorem State.serveCommand_of_broadcast {s : State} {op : Byte} {q : Request} (released : s.released = true)
    (waiting : s.line.waitingReset = none) (free : touchesStaging op = false ∨ s.table.pendingSwap = false)
    (passed : s.addressed q.target = false) (broadcast : s.broadcastTo q.target op = true) :
    s.serveCommand op q = (s.operate op q.item q.payload).state.answered op q 0x00#8 q.payload := by
  have served : s.serve (recordOf op q) = ((s.operate op q.item q.payload).state, recordOf op q) := by
    simp [State.serve, recordOf, passed, broadcast]
  rw [State.serveCommand_of_free released waiting free, served]
  rfl

/-- A record that does not reach the node: state and record as they came (R160). -/
theorem State.serveCommand_of_unreached {s : State} {op : Byte} {q : Request} (released : s.released = true)
    (waiting : s.line.waitingReset = none) (free : touchesStaging op = false ∨ s.table.pendingSwap = false)
    (passed : s.addressed q.target = false) (broadcast : s.broadcastTo q.target op = false) :
    s.serveCommand op q = s.answered op q 0x00#8 q.payload := by
  have served : s.serve (recordOf op q) = (s, recordOf op q) := by
    simp [State.serve, recordOf, passed, broadcast]
  rw [State.serveCommand_of_free released waiting free, served]
  rfl

theorem State.addressed_of_elsewhere {s : State} {q : Request}
    (h : q.target.toNat ≠ s.power.index.toNat ∨ s.power.index.toNat = 0 ∨ s.power.index.toNat = 31) :
    s.addressed q.target = false := by
  obtain other | invalid := h
  · simp [State.addressed, State.indexNat, other]
  · simp [State.addressed, State.indexValid_of_invalid invalid]

/-- A target of 31 is no node's index: the valid indices end at 30 (R160). -/
theorem State.addressed_broadcast (s : State) : s.addressed 31#8 = false := by
  have past : s.indexValid = true → ¬31 = s.power.index.toNat := fun valid => by
    have := s.indexValid_iff.1 valid
    omega
  simpa [State.addressed, State.indexNat] using past

/-! ## Commands addressed by index -/

/-- A command of the ten that reaches the node by its index is answered with what its operation gives. -/
theorem exec_of_answer {op result : Byte} {c : Instr} {q : Request} {s t : State} {p : Payload}
    (hc : (op, c) ∈ serviceCommands q) (h : s.ReachedBy q)
    (free : touchesStaging op = false ∨ s.table.pendingSwap = false)
    (answer : s.operate op q.item q.payload = { state := t, result := result, payload := p }) :
    exec c s = .next (t.answered op q result p) := by
  rw [exec_serviceCommands hc, State.serveCommand_of_reached h free answer]

section
variable {q : Request} {s t : State} {result : Byte} {p : Payload}

theorem exec_readParam_of_reached (h : s.ReachedBy q)
    (answer : s.opReadParam q.item.toNat q.payload = { state := t, result := result, payload := p }) :
    exec (.readParam q) s = .next (t.answered 0x01#8 q result p) :=
  exec_of_answer (by simp [serviceCommands]) h (.inl (by decide)) answer

theorem exec_readEntry_of_reached (h : s.ReachedBy q)
    (answer : s.opReadEntry q.item.toNat q.payload = { state := t, result := result, payload := p }) :
    exec (.readEntry q) s = .next (t.answered 0x03#8 q result p) :=
  exec_of_answer (by simp [serviceCommands]) h (.inl (by decide)) answer

theorem exec_readLive_of_reached (h : s.ReachedBy q)
    (answer : s.opReadLive q.item.toNat q.payload = { state := t, result := result, payload := p }) :
    exec (.readLive q) s = .next (t.answered 0x09#8 q result p) :=
  exec_of_answer (by simp [serviceCommands]) h (.inl (by decide)) answer

theorem exec_lineReset_of_reached (h : s.ReachedBy q)
    (answer : s.opLineReset q.payload = { state := t, result := result, payload := p }) :
    exec (.lineReset q) s = .next (t.answered 0x0A#8 q result p) :=
  exec_of_answer (by simp [serviceCommands]) h (.inl (by decide)) answer

end

/-! ## The banks a selector names (R164) -/

theorem State.bankNamed_of_other (s : State) {b : Byte} (h0 : b ≠ 0#8) (h1 : b ≠ 1#8) : s.bankNamed b = none := by
  rw [State.bankNamed, if_neg h0, if_neg h1]

theorem State.bankNamed_eq_some {s : State} {b : Byte} {x : Profile}
    (h : b = 0#8 ∧ x = s.activeBank ∨ b = 1#8 ∧ x = s.stagingBank) : s.bankNamed b = some x := by
  obtain ⟨rfl, rfl⟩ | ⟨rfl, rfl⟩ := h <;> rfl

/-! ## READ_PARAM and READ_ENTRY (R165, R167) -/

theorem State.opReadParam_of_unknown {item : Nat} (h : ¬inRange 1 34 item) (s : State) (v : Payload) :
    s.opReadParam item v = refuse s v resultUnknownItem := by
  rw [State.opReadParam, if_neg (mt (paramIdValid_iff item).1 h)]

theorem State.opReadParam_of_refused {s : State} {item : Nat} {v : Payload} (known : inRange 1 34 item)
    (h : s.bankNamed v.b0 = none) : s.opReadParam item v = refuse s v resultRange := by
  rw [State.opReadParam, if_pos ((paramIdValid_iff item).2 known), h]

theorem State.opReadParam_of_named {s : State} {item : Nat} {v : Payload} {b : Profile} (known : inRange 1 34 item)
    (h : s.bankNamed v.b0 = some b) : s.opReadParam item v =
      { state := s, result := resultDone, payload := readParamValue b.params item { v with b1 := 0 } } := by
  rw [State.opReadParam, if_pos ((paramIdValid_iff item).2 known), h]

theorem State.opReadEntry_of_refused {s : State} {v : Payload} (h : s.bankNamed v.b0 = none) (item : Nat) :
    s.opReadEntry item v = refuse s v resultRange := by
  rw [State.opReadEntry, h]

theorem State.opReadEntry_of_absent {s : State} {item : Nat} {v : Payload} {b : Profile}
    (h : s.bankNamed v.b0 = some b) (absent : b.entries[item]? = none) :
    s.opReadEntry item v = refuse s v resultIndex := by
  simp only [State.opReadEntry, h, absent]

theorem State.opReadEntry_of_present {s : State} {item : Nat} {v : Payload} {b : Profile} {e : Sector}
    (h : s.bankNamed v.b0 = some b) (present : b.entries[item]? = some e) : s.opReadEntry item v =
      { state := s, result := resultDone, payload := Payload.withSector v e } := by
  simp only [State.opReadEntry, h, present]

/-- A number of 16 bits is the one its two bytes carry, high byte first (R164). -/
theorem toNat_highByte_append_lowByte {n : Nat} (h : n < 65536) :
    (highByte (BitVec.ofNat 16 n) ++ lowByte (BitVec.ofNat 16 n) : Word16).toNat = n := by
  rw [highByte_append_lowByte, BitVec.toNat_ofNat, Nat.mod_eq_of_lt h]

theorem Payload.withSector_carries {e : Sector} (range : Sector.InRange e) (v : Payload) :
    CarriesEntry (Payload.withSector v e) e :=
  have start := range.start
  have stop := range.stop
  have factor := range.factor
  ⟨rfl, toNat_highByte_append_lowByte (by omega), toNat_highByte_append_lowByte (by omega),
    toNat_highByte_append_lowByte (by omega)⟩

/-- Settles O43: the id, then the bank, then the entry decide the answer. -/
theorem readsAnswer : Obligations.ReadsAnswer := by
  refine ⟨fun q s h => ⟨fun unknown => ?_, fun known not0 not1 => ?_, fun known active => ?_, fun known staging => ?_⟩,
    fun q s h => ⟨fun not0 not1 => ?_, fun b named => ⟨fun absent => ?_, fun e present range => ?_⟩⟩⟩
  · exact exec_readParam_of_reached h (State.opReadParam_of_unknown unknown s _)
  · exact exec_readParam_of_reached h (State.opReadParam_of_refused known (s.bankNamed_of_other not0 not1))
  · exact exec_readParam_of_reached h
      (State.opReadParam_of_named known (State.bankNamed_eq_some (.inl ⟨active, rfl⟩)))
  · exact exec_readParam_of_reached h
      (State.opReadParam_of_named known (State.bankNamed_eq_some (.inr ⟨staging, rfl⟩)))
  · exact exec_readEntry_of_reached h (State.opReadEntry_of_refused (s.bankNamed_of_other not0 not1) _)
  · exact exec_readEntry_of_reached h (State.opReadEntry_of_absent (State.bankNamed_eq_some named) absent)
  · exact ⟨_, exec_readEntry_of_reached h (State.opReadEntry_of_present (State.bankNamed_eq_some named) present), rfl,
      Payload.withSector_carries range _⟩

/-! ## SET_EVENTS (R169) -/

/-- Settles O48: the operation does not touch the staging bank, so a pending swap does not hold it off. -/
theorem setEventsReplacesSets : Obligations.SetEventsReplacesSets := fun q s h =>
  have answer : s.operate 0x08#8 q.item q.payload = s.opSetEvents q.payload := rfl
  exec_of_answer (by simp [serviceCommands]) h (.inl (by decide)) answer

/-! ## READ_LIVE (R138, R170, R171) -/

theorem State.opReadLive_of_unknown {s : State} {item : Nat} (h : s.liveValue item = none) (v : Payload) :
    s.opReadLive item v = refuse s v resultUnknownItem := by
  rw [State.opReadLive, h]

theorem State.opReadLive_of_absent {s : State} {item : Nat} (h : s.liveValue item = some none) (v : Payload) :
    s.opReadLive item v = { state := s, result := resultDone, payload :=
      { b0 := 0, b1 := 0, b2 := 0, b3 := 0, b4 := 0, b5 := 0, b6 := 0, b7 := 0 } } := by
  rw [State.opReadLive, h]
  rfl

theorem State.opReadLive_of_held {s : State} {item : Nat} {w : Word16} (h : s.liveValue item = some (some w))
    (v : Payload) : s.opReadLive item v = { state := s, result := resultDone, payload :=
      { b0 := 1, b1 := 0, b2 := w.extractLsb' 8 8, b3 := w.extractLsb' 0 8, b4 := 0, b5 := 0, b6 := 0, b7 := 0 } } := by
  rw [State.opReadLive, h]
  rfl

theorem State.liveValue_of_outside {id : Nat} (h : id = 0 ∨ 14 ≤ id) (s : State) : s.liveValue id = none := by
  unfold State.liveValue
  split
  case h_14 => rfl
  all_goals omega

/-- Live value 2, the latched chain: 1 while open (R170). -/
theorem State.liveValue_chain (s : State) : s.liveValue 2 = some (some (if s.slot.chainOpen then 1 else 0)) := by
  unfold State.liveValue
  cases s.slot.chainOpen <;> rfl

theorem Conditions.code_toNat (x : Conditions) : (Conditions.code x).toNat = x.joint.toNat + 2 * x.overSpeed.toNat
    + 4 * x.underSpeed.toNat + 8 * x.nocap.toNat + 16 * x.short.toNat + 32 * x.field.toNat := by
  obtain ⟨joint, overSpeed, underSpeed, nocap, short, field⟩ := x
  revert joint overSpeed underSpeed nocap short field
  decide

/-- Live value 10, the sticky conditions as a set (R170). -/
theorem State.liveValue_sticky (s : State) : s.liveValue 10 = some (some (BitVec.ofNat 16 (s.demand.sticky.joint.toNat
    + 2 * s.demand.sticky.overSpeed.toNat + 4 * s.demand.sticky.underSpeed.toNat + 8 * s.demand.sticky.nocap.toNat
    + 16 * s.demand.sticky.short.toNat + 32 * s.demand.sticky.field.toNat))) := by
  rw [← Conditions.code_toNat]
  rfl

/-- Live value 12, whether the frame's processing made the pending swap (R170, R171). -/
theorem State.liveValue_swap (s : State) : s.liveValue 12 = some (some (if s.slot.swapMade then 2 else 0)) := by
  unfold State.liveValue
  cases s.slot.swapMade <;> rfl

/-- Live value 9, the remaining time of the drive phase (R170). -/
theorem State.liveValue_phase {s : State} {n : Nat} (h : s.phaseRemaining = n) :
    s.liveValue 9 = some (some (BitVec.ofNat 16 n)) := by
  rw [← h]
  rfl

theorem timeLeft_eq_getD (x : Option Timer) : timeLeft x = (x.map Timer.left).getD 0 := by
  cases x <;> rfl

theorem State.phaseRemaining_of_idle {s : State} (h : s.drive.st = .off ∨ s.drive.st = .faulted) :
    s.phaseRemaining = 0 := by
  obtain h | h := h <;> rw [State.phaseRemaining, h]

theorem State.phaseRemaining_of_phase {s : State} (h : s.drive.st = .starting ∨ s.drive.st = .stopping) :
    s.phaseRemaining = ((s.drive.phase.map Timer.left).getD 0 + 99) / 100 := by
  rw [← timeLeft_eq_getD]
  obtain h | h := h <;> rw [State.phaseRemaining, h] <;> rfl

theorem State.phaseRemaining_of_duty {s : State} {x : Timer} (h : s.drive.st = .running)
    (duty : s.params.driveMode = .duty) (jog : s.drive.jog = false) (period : s.drive.period = some x) :
    s.phaseRemaining = (100 * s.drive.onTime - (x.length - x.left) + 99) / 100 := by
  simp only [State.phaseRemaining, h, duty, jog, and_self, if_true, tenthsUp, DriveBlock.onTimeLeft, period]

theorem State.phaseRemaining_of_untimed {s : State} (h : s.drive.st = .running)
    (untimed : s.params.driveMode = .rate ∨ s.drive.jog = true) : s.phaseRemaining = 0 := by
  have other : ¬(s.params.driveMode = .duty ∧ s.drive.jog = false) := by
    rintro ⟨duty, jog⟩
    simp [duty, jog] at untimed
  simp only [State.phaseRemaining, h, if_neg other]

theorem State.phaseRemaining_of_resting {s : State} (h : s.drive.st = .resting) : s.phaseRemaining =
    (max ((s.drive.period.map Timer.left).getD 0) ((s.drive.phase.map Timer.left).getD 0) + 99) / 100 := by
  rw [← timeLeft_eq_getD, ← timeLeft_eq_getD, State.phaseRemaining, h]
  rfl

/-- Settles O49: each id reads the value of its owner; the phase's time is that of the drive state. -/
theorem readLiveReturnsValues : Obligations.ReadLiveReturnsValues := by
  intro q s h held absent left
  have holds {id : Nat} {w : Word16} (item : q.item.toNat = id) (value : s.liveValue id = some (some w)) : held w :=
    exec_readLive_of_reached h (State.opReadLive_of_held (item ▸ value) _)
  have lacks {id : Nat} (item : q.item.toNat = id) (value : s.liveValue id = some none) : absent :=
    exec_readLive_of_reached h (State.opReadLive_of_absent (item ▸ value) _)
  have phase {n : Nat} (item : q.item.toNat = 9) (time : s.phaseRemaining = n) : held (BitVec.ofNat 16 n) :=
    holds item (State.liveValue_phase time)
  refine ⟨fun outside => ?unknown, fun item => ?ceiling, fun item => ?chain, fun item => ?holdCauses,
    fun item => ?missCount, fun item => ?holdCount, fun item => ?theta, fun item => ?period, fun item => ?counter,
    fun item st => ?idle, fun item st => ?phase, fun x item st duty jog timer => ?duty, fun item st untimed => ?untimed,
    fun item st => ?resting, fun item => ?sticky, fun item empty => ?noLookup, fun hit item found => ?lookup,
    fun item => ?swap, fun item empty => ?noTrip, fun r item record => ?trip⟩
  case unknown => exact exec_readLive_of_reached h (State.opReadLive_of_unknown (s.liveValue_of_outside outside) _)
  case chain => exact holds item s.liveValue_chain
  case sticky => exact holds item s.liveValue_sticky
  case swap => exact holds item s.liveValue_swap
  case idle => exact phase item (State.phaseRemaining_of_idle st)
  case phase => exact phase item (State.phaseRemaining_of_phase st)
  case duty => exact phase item (State.phaseRemaining_of_duty st duty jog timer)
  case untimed => exact phase item (State.phaseRemaining_of_untimed st untimed)
  case resting => exact phase item (State.phaseRemaining_of_resting st)
  case noLookup => exact lacks item (by rw [State.liveValue, empty]; rfl)
  case lookup => exact holds item (by rw [State.liveValue, found]; rfl)
  case noTrip => exact lacks item (by rw [State.liveValue, empty]; rfl)
  case trip => exact holds item (by rw [State.liveValue, record]; rfl)
  case ceiling | holdCauses | missCount | holdCount | theta | period | counter => exact holds item rfl

/-! ## LINE_RESET (R172) -/

theorem State.opLineReset_of_kind {v : Payload} {k : LineResetKind} (h : resetKindOf v.b0 = some k) (s : State) :
    s.opLineReset v =
      { state := s.withLine { s.line with waitingReset := some k }, result := resultDone, payload := v } := by
  rw [State.opLineReset, h]

theorem State.opLineReset_of_other {v : Payload} (not0 : v.b0 ≠ 0#8) (not1 : v.b0 ≠ 1#8) (s : State) :
    s.opLineReset v = refuse s v resultRange := by
  rw [State.opLineReset, resetKindOf, if_neg not0, if_neg not1]

/-- Settles O50: the kind byte decides. -/
theorem lineResetIsOrdered : Obligations.LineResetIsOrdered := by
  refine fun q s h => ⟨fun hard => ?_, fun soft => ?_, fun not0 not1 => ?_⟩
  · exact exec_lineReset_of_reached h (State.opLineReset_of_kind (by rw [hard]; rfl) s)
  · exact exec_lineReset_of_reached h (State.opLineReset_of_kind (by rw [soft]; rfl) s)
  · exact exec_lineReset_of_reached h (State.opLineReset_of_other not0 not1 s)

/-! ## Broadcasts (R160, R161) -/

/-- COMMIT's payload goes back as sent, whatever it answers (R161). -/
theorem State.opCommit_payload (s : State) (v : Payload) : (s.opCommit v).payload = v := by
  unfold State.opCommit
  split <;> rfl

theorem State.opLineReset_payload (s : State) (v : Payload) : (s.opLineReset v).payload = v := by
  unfold State.opLineReset
  split <;> rfl

/-- A broadcastable operation by index and by broadcast: one state, answered in the one case and in the other not. -/
theorem State.broadcast_as_addressed {s : State} {op : Byte} {q own : Request} (h : s.ReachedBy own)
    (same : own = { q with target := own.target }) (free : s.table.pendingSwap = false)
    (broadcast : broadcastable op = true) (payload : (s.operate op q.item q.payload).payload = q.payload) :
    ∃ (t : State) (result : Byte), s.serveCommand op own = t.answered op own result q.payload
      ∧ s.serveCommand op { q with target := 31#8 } = t.answered op { q with target := 31#8 } 0x00#8 q.payload := by
  have answer : s.operate op own.item own.payload =
      ⟨(s.operate op q.item q.payload).state, (s.operate op q.item q.payload).result, q.payload⟩ := by
    rw [congrArg Request.item same, congrArg Request.payload same]
    exact congrArg (Answer.mk _ _) payload
  refine ⟨_, _, State.serveCommand_of_reached h (.inr free) answer, ?_⟩
  obtain ⟨released, waiting, low, high, -⟩ := h
  exact State.serveCommand_of_broadcast released waiting (.inr free) s.addressed_broadcast
    (by simp [State.broadcastTo, s.indexValid_iff.2 ⟨low, high⟩, broadcast])

/-- Settles O52: both operations can be broadcast, and neither changes the payload. -/
theorem broadcastActsUnanswered : Obligations.BroadcastActsUnanswered := by
  rintro q own all s h same rfl free
  refine ⟨?_, ?_⟩
  · obtain ⟨t, result, byIndex, byBroadcast⟩ :=
      State.broadcast_as_addressed (op := 0x07#8) h same free (by decide) (s.opCommit_payload q.payload)
    exact ⟨t, result, congrArg _ byIndex, congrArg _ byBroadcast⟩
  · obtain ⟨t, result, byIndex, byBroadcast⟩ :=
      State.broadcast_as_addressed (op := 0x0A#8) h same free (by decide) (s.opLineReset_payload q.payload)
    exact ⟨t, result, congrArg _ byIndex, congrArg _ byBroadcast⟩

/-! ## Unknown operations, and records that do not reach the node (R160, R163) -/

theorem State.operate_of_unknown {op : Byte} (h : ¬inRange 1 10 op.toNat) (s : State) (item : Word16) (v : Payload) :
    s.operate op item v = refuse s v resultUnknownOp := by
  unfold inRange at h
  unfold State.operate
  split
  case h_11 => rfl
  all_goals omega

theorem touchesStaging_of_unknown {op : Byte} (h : ¬inRange 1 10 op.toNat) : touchesStaging op = false := by
  unfold inRange at h
  exact decide_eq_false (by omega)

theorem broadcastable_of_unknown {op : Byte} (h : ¬inRange 1 10 op.toNat) : broadcastable op = false := by
  unfold inRange at h
  exact decide_eq_false (by omega)

theorem broadcastable_iff (op : Byte) : broadcastable op = true ↔ op = 0x07#8 ∨ op = 0x0A#8 := by
  revert op
  decide

theorem State.broadcastTo_of_unreached {s : State} {op : Byte} {q : Request}
    (h : q.target.toNat ≠ 31 ∨ (op ≠ 0x07#8 ∧ op ≠ 0x0A#8) ∨ s.power.index.toNat = 0 ∨ s.power.index.toNat = 31) :
    s.broadcastTo q.target op = false := by
  obtain other | ⟨not7, notA⟩ | invalid := h
  · simp [State.broadcastTo, other]
  · have unsent : broadcastable op = false := by simpa [not7, notA] using broadcastable_iff op
    simp [State.broadcastTo, unsent]
  · simp [State.broadcastTo, State.indexValid_of_invalid invalid]

/-- Settles O51: an unknown operation is refused where it is addressed; a record that is neither addressed nor a
broadcast for the node is left alone. -/
theorem unknownOpChangesNothing : Obligations.UnknownOpChangesNothing := by
  refine ⟨fun op q s h unknown => ?_, fun op q s released waiting unknown elsewhere => ?_,
    fun op c q s hc released waiting free elsewhere unreached => ?_⟩
  · rw [exec_unknownOp unknown, State.serveCommand_of_reached h (.inl (touchesStaging_of_unknown unknown))
      (State.operate_of_unknown unknown s _ _)]
    rfl
  · rw [exec_unknownOp unknown, State.serveCommand_of_unreached released waiting
      (.inl (touchesStaging_of_unknown unknown)) (State.addressed_of_elsewhere elsewhere)
      (by simp [State.broadcastTo, broadcastable_of_unknown unknown])]
  · rw [exec_serviceCommands hc, State.serveCommand_of_unreached released waiting (.inr free)
      (State.addressed_of_elsewhere elsewhere) (State.broadcastTo_of_unreached unreached)]

end Sys2Proof.Machine
end

section
/-! SUPPORT. The values of the service records, read and written back (R164 to R166): what each form carries, and the
obligation about it. -/

namespace Sys2Proof.Machine

/-! ## Numbers in the value field (R164) -/

theorem Payload.number_withWord (v : Payload) {n : Nat} (h : n < 65536) :
    Payload.number (Payload.withWord v (BitVec.ofNat 16 n)) = n :=
  toNat_highByte_append_lowByte h

theorem Payload.signedNumber_withWord (v : Payload) {z : Int} (range : -300 ≤ z ∧ z ≤ 300) :
    Payload.signedNumber (Payload.withWord v (BitVec.ofInt 16 z)) = z := by
  have carried : Payload.signedNumber (Payload.withWord v (BitVec.ofInt 16 z)) = (BitVec.ofInt 16 z).toInt :=
    congrArg BitVec.toInt (highByte_append_lowByte _)
  rw [carried, BitVec.toInt_ofInt, Int.bmod_eq_of_le (by omega) (by omega)]

/-- A value that is carried whole and admitted is written as it was read. -/
theorem ite_write_of_carried {α : Type} {carried n : α} (admitted : α → Prop) [DecidablePred admitted]
    (write : α → Params) (whole : carried = n) (h : admitted n) :
    (if admitted carried then some (write carried) else none) = some (write n) := by
  rw [whole, if_pos h]

/-- A number in its range, within 16 bits, is written back as it was read. -/
theorem ranged_number_withWord {lo hi n : Nat} (range : inRange lo hi n) (fits : hi < 65536) (v : Payload)
    (write : Nat → Params) :
    ranged lo hi (Payload.number (Payload.withWord v (BitVec.ofNat 16 n)))
      (write (Payload.number (Payload.withWord v (BitVec.ofNat 16 n)))) = some (write n) :=
  ite_write_of_carried (fun n => lo ≤ n ∧ n ≤ hi) write (Payload.number_withWord v (range.2.trans_lt fits)) range

/-! ## Choices, sets and patterns in the value field (R164) -/

theorem driveModeOf_code (x : DriveMode) : driveModeOf (DriveMode.code x) = some x := by
  cases x <;> rfl

theorem auxEdgeOf_code (x : AuxEdge) : auxEdgeOf (AuxEdge.code x) = some x := by
  cases x <;> rfl

theorem filterOf_code (x : FilterKind) : filterOf (FilterKind.code x) = some x := by
  cases x <;> rfl

theorem tripEnablesOf_code (x : TripEnables) : tripEnablesOf (TripEnables.code x) = x := by
  obtain ⟨joint, overSpeed, underSpeed, field, stall⟩ := x
  revert joint overSpeed underSpeed field stall
  decide

theorem polarityOf_code (x : PerInput Bool) : polarityOf (polarityCode x) = x := by
  obtain ⟨safe, hand, jogF, jogR, drdy, aux⟩ := x
  revert safe hand jogF jogR drdy aux
  decide

theorem filtersOf_codes (x : PerInput FilterKind) (v : Payload) : filtersOf { v with
    b2 := FilterKind.code x.safe, b3 := FilterKind.code x.hand, b4 := FilterKind.code x.jogF,
    b5 := FilterKind.code x.jogR, b6 := FilterKind.code x.drdy, b7 := FilterKind.code x.aux } = some x := by
  simp only [filtersOf, filterOf_code]

theorem patternOf_withPattern {x : LampPattern} (range : LampPattern.InRange x) (v : Payload) :
    patternOf (Payload.withPattern v x) = some x := by
  obtain ⟨length, low, high⟩ := range
  have carriedLength : (BitVec.ofNat 8 x.length).toNat = x.length := by
    rw [BitVec.toNat_ofNat]
    omega
  have carriedWidth : (BitVec.ofNat 8 x.width).toNat = x.width := by
    rw [BitVec.toNat_ofNat]
    omega
  have carriedSteps : (x.steps.setWidth 16).setWidth 12 = x.steps :=
    BitVec.setWidth_setWidth_of_le _ (by decide)
  simp only [patternOf, Payload.withPattern, highByte_append_lowByte, carriedLength, carriedWidth, carriedSteps]
  exact if_pos ⟨length, low, high⟩

/-! ## A value read and written (R165, R166) -/

/-- The value read of a parameter within its range and set is taken by WRITE_PARAM, which replaces that parameter by
the one read. -/
theorem writeParamValue_readParamValue {p : Params} {id : Nat} (range : Params.InRange p) (radius : p.radius ≠ 0)
    (vmax : p.vmax ≠ 0) (known : inRange 1 34 id) (into : Params) (v : Payload) :
    writeParamValue into id (readParamValue p id v) = some (Params.replaced id p into) := by
  obtain ⟨low, high⟩ := known
  unfold readParamValue
  split
  case h_1 =>
    exact ranged_number_withWord (range.radius.resolve_left radius) (by decide) v fun n => { into with radius := n }
  case h_2 => exact ranged_number_withWord (range.vmax.resolve_left vmax) (by decide) v fun n => { into with vmax := n }
  case h_3 => exact ranged_number_withWord range.reserve (by decide) v fun n => { into with reserve := n }
  case h_4 => exact ranged_number_withWord range.gain (by decide) v fun n => { into with gain := n }
  case h_5 => exact ranged_number_withWord range.deadband (by decide) v fun n => { into with deadband := n }
  case h_6 => exact ranged_number_withWord range.jointSpan (by decide) v fun n => { into with jointSpan := n }
  case h_7 =>
    exact ite_write_of_carried (fun z => -300 ≤ z ∧ z ≤ 300) (fun z => { into with jointOffset := z })
      (Payload.signedNumber_withWord v range.jointOffset) range.jointOffset
  case h_8 => exact ranged_number_withWord range.jointPeriodMin (by decide) v fun n => { into with jointPeriodMin := n }
  case h_9 => exact ranged_number_withWord range.jointPeriodMax (by decide) v fun n => { into with jointPeriodMax := n }
  case h_10 => exact ranged_number_withWord range.warnLimit (by decide) v fun n => { into with warnLimit := n }
  case h_11 => exact ranged_number_withWord range.safetyLimit (by decide) v fun n => { into with safetyLimit := n }
  case h_12 => exact ranged_number_withWord range.holdLimit (by decide) v fun n => { into with holdLimit := n }
  case h_13 =>
    exact ite_write_of_carried (fun n => n = 8 ∨ n = 16 ∨ n = 24 ∨ n = 32) (fun n => { into with teeth := n })
      (Payload.number_withWord v (by have := range.teeth; omega)) range.teeth
  case h_14 => exact ranged_number_withWord range.circumference (by decide) v fun n => { into with circumference := n }
  case h_15 => exact ranged_number_withWord range.stallTicks (by decide) v fun n => { into with stallTicks := n }
  case h_16 => exact ranged_number_withWord range.dragThreshold (by decide) v fun n => { into with dragThreshold := n }
  case h_17 => exact congrArg (Option.map fun x => { into with driveMode := x }) (driveModeOf_code p.driveMode)
  case h_18 => exact ranged_number_withWord range.dutyPeriod (by decide) v fun n => { into with dutyPeriod := n }
  case h_19 => exact ranged_number_withWord range.minOn (by decide) v fun n => { into with minOn := n }
  case h_20 => exact ranged_number_withWord range.minOff (by decide) v fun n => { into with minOff := n }
  case h_21 => exact ranged_number_withWord range.startTimeout (by decide) v fun n => { into with startTimeout := n }
  case h_22 => exact ranged_number_withWord range.stopTime (by decide) v fun n => { into with stopTime := n }
  case h_23 => exact ranged_number_withWord range.cyclePeriod (by decide) v fun n => { into with cyclePeriod := n }
  case h_24 => exact ranged_number_withWord range.linkMissLimit (by decide) v fun n => { into with linkMissLimit := n }
  case h_25 =>
    exact ranged_number_withWord range.returnMissLimit (by decide) v fun n => { into with returnMissLimit := n }
  case h_26 => exact congrArg (fun x => some { into with tripEnables := x }) (tripEnablesOf_code p.tripEnables)
  case h_27 => exact congrArg (fun x => some { into with inputPolarity := x }) (polarityOf_code p.inputPolarity)
  case h_28 => exact congrArg (Option.map fun x => { into with inputFilter := x }) (filtersOf_codes p.inputFilter v)
  case h_29 => exact congrArg (Option.map fun x => { into with auxEdge := x }) (auxEdgeOf_code p.auxEdge)
  case h_30 => exact congrArg (Option.map fun x => { into with lampRun := x }) (patternOf_withPattern range.lampRun v)
  case h_31 => exact congrArg (Option.map fun x => { into with lampHold := x }) (patternOf_withPattern range.lampHold v)
  case h_32 =>
    exact congrArg (Option.map fun x => { into with lampFault := x }) (patternOf_withPattern range.lampFault v)
  case h_33 =>
    exact congrArg (Option.map fun x => { into with lampSector := x }) (patternOf_withPattern range.lampSector v)
  case h_34 => exact ranged_number_withWord range.jogDemand (by decide) v fun n => { into with jogDemand := n }
  case h_35 =>
    simp only [imp_false] at *
    omega

/-- A parameter replaced reads as the one that replaced it (R165). -/
theorem readParamValue_replaced_self (id : Nat) (new p : Params) (v : Payload) :
    readParamValue (Params.replaced id new p) id v = readParamValue new id v := by
  unfold readParamValue
  split <;> rfl

theorem Params.replaced_self (id : Nat) (p : Params) : Params.replaced id p p = p := by
  simp only [Params.replaced, ite_self]

/-- Settles O45: a write of what was read replaces the one parameter, and replacing a parameter by itself is nothing; an
entry is carried by its own payload. -/
theorem valuesAreCarriedWhole : Obligations.ValuesAreCarriedWhole := by
  refine ⟨fun from_ to_ id v range radius vmax known => ?_, fun e v range => ?_⟩
  · have written (into : Params) := writeParamValue_readParamValue range radius vmax known into v
    exact ⟨_, written to_, readParamValue_replaced_self id from_ to_ v,
      (written from_).trans (congrArg some (Params.replaced_self id from_))⟩
  · exact sectorOf_eq_some_iff.2 ⟨Payload.withSector_carries range v, range⟩

end Sys2Proof.Machine
end

section
/-! SUPPORT. The events by their ranks, the top event chosen from the sets and the clear set (R180, R183, R184); and the
obligations about them. -/

namespace Sys2Proof.Machine

/-! ## Events by their ranks (R180) -/

theorem Event.rank_pos (e : Event) : 1 ≤ Event.rank e := by cases e <;> decide

theorem Event.rank_le (e : Event) : Event.rank e ≤ 16 := by cases e <;> decide

/-- The events in the order of their ranks. -/
def Event.ranked : List Event :=
  [.alignTrip, .safety, .driveFault, .sensorLost, .stall, .linkLost, .returnLost, .chainStop, .strap, .alignWarn, .drag,
    .condition, .handEntry, .profile, .lineError, .aux]

theorem Event.ranked_rank : Event.ranked.map Event.rank = List.range' 1 16 := by decide

theorem Event.exists_rank {k : Nat} (pos : 1 ≤ k) (le : k ≤ 16) : ∃ e, Event.rank e = k := by
  have mem : k ∈ Event.ranked.map Event.rank := by
    rw [Event.ranked_rank, List.mem_range'_1]
    omega
  obtain ⟨e, -, rank⟩ := List.mem_map.1 mem
  exact ⟨e, rank⟩

theorem hasEvent_and (a b : Word16) (e : Event) : hasEvent (a &&& b) e = (hasEvent a e && hasEvent b e) :=
  BitVec.getLsbD_and

theorem hasEvent_zero (e : Event) : hasEvent 0 e = false := BitVec.getLsbD_zero

/-! ## The top event (R183) -/

/-- The search from rank `r` finds no member among the ranks it looks at, or the first. -/
theorem lowestRank_cases (set : Word16) (fuel r : Nat) :
    (lowestRank set fuel r = 0 ∧ ∀ k, r ≤ k → k < r + fuel → set.getLsbD (k - 1) = false)
      ∨ (r ≤ lowestRank set fuel r ∧ lowestRank set fuel r < r + fuel ∧ set.getLsbD (lowestRank set fuel r - 1) = true
          ∧ ∀ k, r ≤ k → set.getLsbD (k - 1) = true → lowestRank set fuel r ≤ k) := by
  induction fuel generalizing r with
  | zero => exact .inl ⟨rfl, fun k ge lt => absurd ge (by omega)⟩
  | succ fuel ih =>
    rw [lowestRank]
    split
    next here => exact .inr ⟨le_rfl, by omega, here, fun _ ge _ => ge⟩
    next here =>
      have later {k : Nat} (ge : r ≤ k) (mem : set.getLsbD (k - 1) = true) : r + 1 ≤ k := by
        refine Nat.lt_of_le_of_ne ge ?_
        rintro rfl
        exact here mem
      obtain ⟨zero, empty⟩ | ⟨ge, lt, mem, first⟩ := ih (r + 1)
      · refine .inl ⟨zero, fun k ge lt => Bool.eq_false_iff.2 fun mem => ?_⟩
        exact Bool.eq_false_iff.1 (empty k (later ge mem) (by omega)) mem
      · exact .inr ⟨by omega, by omega, mem, fun k ge mem => first k (later ge mem) mem⟩

/-- The lowest rank of a set: 0 of an empty one, else that of the member before all others. -/
theorem lowestRank_events (set : Word16) :
    (lowestRank set 16 1 = 0 ∧ ∀ e, hasEvent set e = false)
      ∨ ∃ e, lowestRank set 16 1 = Event.rank e ∧ hasEvent set e = true
          ∧ ∀ e', hasEvent set e' = true → Event.rank e ≤ Event.rank e' := by
  obtain ⟨zero, empty⟩ | ⟨ge, lt, mem, first⟩ := lowestRank_cases set 16 1
  · exact .inl ⟨zero, fun e => empty _ e.rank_pos (Nat.lt_succ_of_le e.rank_le)⟩
  · obtain ⟨e, rank⟩ := Event.exists_rank ge (Nat.le_of_lt_succ lt)
    rw [← rank] at mem first ⊢
    exact .inr ⟨e, rfl, mem, fun e' => first _ e'.rank_pos⟩

/-- A set without members is empty: its sixteen bits are those of the ranks 1 to 16. -/
theorem eq_zero_of_hasEvent {set : Word16} (empty : ∀ e, hasEvent set e = false) : set = 0 := by
  refine BitVec.eq_of_getLsbD_eq fun i lt => ?_
  obtain ⟨e, rank⟩ := Event.exists_rank (k := i + 1) (by omega) (by omega)
  have bit := empty e
  rw [hasEvent, rank, Nat.add_sub_cancel] at bit
  rw [bit, BitVec.ofNat_eq_ofNat, BitVec.getLsbD_zero]

/-- An enabled event is pending. -/
def EventBlock.live (x : EventBlock) (e : Event) : Bool := hasEvent x.flags e && hasEvent x.enable e

/-- The top event (R183): NONE without a pending enabled event, else the first of the pending enabled events of the
highest priority there is among them. -/
theorem topEvent_cases (x : EventBlock) :
    (topEvent x = 0 ∧ ∀ e, x.live e = false)
      ∨ ∃ e, topEvent x = Event.rank e ∧ x.live e = true ∧ ∀ e', x.live e' = true →
          (hasEvent x.high e' = true → hasEvent x.high e = true)
            ∧ (hasEvent x.high e' = hasEvent x.high e → Event.rank e ≤ Event.rank e') := by
  have live (e : Event) : hasEvent (x.flags &&& x.enable) e = x.live e := hasEvent_and _ _ e
  have urgent (e : Event) : hasEvent (x.flags &&& x.enable &&& x.high) e = (x.live e && hasEvent x.high e) := by
    rw [hasEvent_and, live]
  rw [topEvent]
  split
  next noneHigh =>
    have low {e : Event} (mem : x.live e = true) : hasEvent x.high e = false := by
      have bit := urgent e
      rwa [noneHigh, hasEvent_zero, mem, Bool.true_and, eq_comm] at bit
    obtain ⟨zero, empty⟩ | ⟨e, rank, mem, first⟩ := lowestRank_events (x.flags &&& x.enable)
    · exact .inl ⟨zero, fun e => (live e).symm.trans (empty e)⟩
    · refine .inr ⟨e, rank, (live e).symm.trans mem, fun e' mem' => ⟨fun high => ?_, fun _ => ?_⟩⟩
      · exact absurd high (Bool.eq_false_iff.1 (low mem'))
      · exact first e' ((live e').trans mem')
  next someHigh =>
    obtain ⟨-, empty⟩ | ⟨e, rank, mem, first⟩ := lowestRank_events (x.flags &&& x.enable &&& x.high)
    · exact absurd (eq_zero_of_hasEvent empty) someHigh
    · rw [urgent, Bool.and_eq_true] at mem
      obtain ⟨mem, high⟩ := mem
      refine .inr ⟨e, rank, mem, fun e' mem' => ⟨fun _ => high, fun same => first e' ?_⟩⟩
      rw [urgent, mem', same, high, Bool.true_and]

theorem topEvent_le (x : EventBlock) : topEvent x ≤ 16 := by
  obtain ⟨zero, -⟩ | ⟨e, rank, -⟩ := topEvent_cases x
  · omega
  · exact rank ▸ e.rank_le

/-- Settles O24: the law by the two cases of the top event, and the status byte, which holds every rank. -/
theorem topEventLaw : Obligations.TopEventLaw := by
  refine ⟨fun x => ?_, fun f s sized owned => ?_⟩
  · have idle_iff (e : Event) :
        x.live e = false ↔ (hasEvent x.flags e = true → hasEvent x.enable e = false) := by
      simp [EventBlock.live]
    simp only [← idle_iff]
    obtain ⟨zero, empty⟩ | ⟨e, rank, mem, top⟩ := topEvent_cases x
    · exact ⟨⟨fun _ => empty, fun _ => zero⟩, absurd zero⟩
    · have pos := e.rank_pos
      refine ⟨⟨fun zero => by omega, fun empty => absurd mem (by simp [empty e])⟩, fun _ => ?_⟩
      obtain ⟨pending, enabled⟩ := Bool.and_eq_true_iff.1 mem
      exact ⟨e, rank.symm, pending, enabled, fun e' pending' enabled' =>
        top e' (Bool.and_eq_true_iff.2 ⟨pending', enabled'⟩)⟩
  · have carried : byteAt (s.processFrame f).2 (slotAt s.indexNat + 14)
        = BitVec.ofNat 8 (topEvent (s.throughMotion f).events) :=
      State.byteAt_processFrame_status sized owned 11 (by decide)
    have le := topEvent_le (s.throughMotion f).events
    rw [carried, BitVec.toNat_ofNat]
    omega

/-! ## The clear set (R184) -/

/-- A clear set in one expression: the flags, the measurement that a named STALL starts again when frozen, and the sticky
set that a named CONDITION empties (R80, R112, R184). -/
theorem State.applyClearSet_eq (s : State) (named : Word16) : s.applyClearSet named =
    ((s.withEvents { s.events with flags := s.events.flags &&& ~~~named }).withWheel
      (if hasEvent named .stall = true ∧ s.wheel.frozen = true then WheelBlock.restart s.wheel else s.wheel)).withDemand
        (if hasEvent named .condition = true then { s.demand with sticky := Conditions.none } else s.demand) := by
  rw [State.applyClearSet]
  split <;> split <;> rfl

/-- Settles O23: the command is the clear set of stage 3 on a node that runs its stages and owns a slot (log 8). -/
theorem clearSetClearsNamedFlags : Obligations.ClearSetClearsNamedFlags := by
  intro named s released waiting ge le
  have runs : s.stagesRun = true ∧ s.indexValid = true :=
    ⟨State.stagesRun_of released waiting, s.indexValid_iff.2 ⟨ge, le⟩⟩
  rw [show exec (.clearSet named) s = execClearSet named s from rfl, execClearSet, if_pos runs, State.applyClearSet_eq]
  rfl

end Sys2Proof.Machine
end

section
/-! SUPPORT. One sample of an input at its sample clock: the run it adds to, and the level it may take (R175 to R177, R179);
and the obligation about INPUT_SAMPLE. -/

namespace Sys2Proof.Machine

/-! ## The level a sample takes (R176, R177) -/

/-- `s` with a filtered level taken by this run: a change of the reading is handed over, the establishment of AUX excepted
(R177, R179). -/
def State.levelTaken (s : State) (i : InputName) (level : Level) (run : SampleRun) : State :=
  let v := s.withInput i { pin := some level, samples := some run }
  if v.inputActive i = s.inputActive i ∨ (i = .aux ∧ (PerInput.get s.inputs i).pin = none) then v
  else v.handOver i (v.inputActive i)

/-- INPUT_CHANGE takes the level by a run of three (log 20). -/
theorem State.inputChanged_eq_levelTaken (s : State) (i : InputName) (level : Level) :
    s.inputChanged i level = s.levelTaken i level { level := level, count := 3 } := rfl

theorem State.withInput_get (s : State) (i : InputName) (x : InputState) :
    PerInput.get (s.withInput i x).inputs i = x := by
  rw [State.withInput, State.withInputs_inputs, PerInput.get_put, if_pos rfl]

theorem State.withInput_withInput (s : State) (i : InputName) (x y : InputState) :
    (s.withInput i x).withInput i y = s.withInput i y := by
  cases i <;> rfl

/-- A sample that does not change the filtered level adds to the run alone (R176). -/
theorem State.sampleInput_of_keeps {s : State} {i : InputName} {level : Level}
    (keeps : sampleTakes (PerInput.get s.params.inputFilter i) (PerInput.get s.inputs i).pin
        (nextRun (PerInput.get s.inputs i).samples level) = true → (PerInput.get s.inputs i).pin = some level) :
    s.sampleInput i level = s.withInput i { PerInput.get s.inputs i with
      samples := some (nextRun (PerInput.get s.inputs i).samples level) } := by
  rw [State.sampleInput]
  split
  next takes => rw [State.setPin, State.withInput_get, if_pos (keeps takes)]
  next => rfl

/-- A sample that takes another level takes it with the run it completes (R176, R177). -/
theorem State.sampleInput_of_takes {s : State} {i : InputName} {level : Level}
    (takes : sampleTakes (PerInput.get s.params.inputFilter i) (PerInput.get s.inputs i).pin
      (nextRun (PerInput.get s.inputs i).samples level) = true)
    (new : (PerInput.get s.inputs i).pin ≠ some level) :
    s.sampleInput i level = s.levelTaken i level (nextRun (PerInput.get s.inputs i).samples level) := by
  have same (run : Option SampleRun) :
      (s.withInput i { PerInput.get s.inputs i with samples := run }).inputActive i = s.inputActive i :=
    State.inputActive_of_pin (by rw [State.withInput_params]) (by rw [State.withInput_get])
  rw [State.sampleInput, if_pos takes, State.setPin, State.levelTaken]
  simp only [State.withInput_get, State.withInput_withInput, if_neg new, same]
  split
  next h => rw [if_pos (.inl h)]
  next h => exact (if_congr (or_iff_right h) rfl rfl).symm

theorem State.levelTaken_frame (s : State) (i : InputName) (level : Level) (run : SampleRun) :
    State.SameOutside [.inputs, .ctrl, .demand, .drive, .events] s (s.levelTaken i level run)
      ∧ State.OnlyRaises s (s.levelTaken i level run)
      ∧ (s.levelTaken i level run).inputs = PerInput.put s.inputs i { pin := some level, samples := some run } := by
  have first := (s.withInput_frame i { pin := some level, samples := some run }).mono
    (large := [.inputs, .ctrl, .demand, .drive, .events]) (by decide)
  have raises : State.OnlyRaises s (s.withInput i { pin := some level, samples := some run }) := .of_events rfl
  rw [State.levelTaken]
  split
  · exact ⟨first, raises, rfl⟩
  · exact ⟨first.trans ((State.handOver_frame _ _ _).mono (by decide)), raises.trans (State.handOver_onlyRaises _ _ _),
      State.handOver_inputs _ _ _⟩

/-! ## INPUT_SAMPLE (R175, log 2) -/

theorem exec_inputSample_of_clock {s : State} {i : InputName} {level : Level} (released : s.released = true)
    (clock : s.sampleClock i = true) :
    exec (.inputSample i level) s = .next ((s.markSampled i).sampleInput i level) := by
  rw [show exec (.inputSample i level) s = execInputSample i level s from rfl, execInputSample,
    if_pos ⟨released, clock⟩]

theorem exec_inputSample_off_clock {s : State} {i : InputName} {level : Level} (clock : ¬s.sampleClock i = true) :
    exec (.inputSample i level) s = .next s := by
  rw [show exec (.inputSample i level) s = execInputSample i level s from rfl, execInputSample,
    if_neg fun h => clock h.2]

/-- Settles O36: the run is the model's next run; the sample keeps the level or takes it, and a level taken is handed
over as INPUT_CHANGE does. -/
theorem sampleRunTakesLevel : Obligations.SampleRunTakesLevel := by
  intro i level s released x filter clock count run takes u v
  have clock_iff : s.sampleClock i = true ↔ clock := s.sampleClock_iff i
  have run_eq : nextRun x.samples level = { level := level, count := count } := by
    simp only [count]
    cases x.samples with
    | none => rfl
    | some r => by_cases same : r.level = level <;> simp [nextRun, same]
  have takes_iff : takes ↔ x.pin ≠ some level ∧ sampleTakes filter x.pin (nextRun x.samples level) = true := by
    simp [takes, sampleTakes, run_eq, Option.isSome_iff_ne_none]
  have sampled (c : clock) : exec (.inputSample i level) s = .next (u.sampleInput i level) :=
    exec_inputSample_of_clock released (clock_iff.2 c)
  have taken (c : clock) (t : takes) :
      exec (.inputSample i level) s = .next (u.levelTaken i level { level := level, count := count }) := by
    obtain ⟨new, completes⟩ := takes_iff.1 t
    rw [sampled c, ← run_eq]
    exact congrArg Host.Outcome.next (State.sampleInput_of_takes (s := u) completes new)
  have marked : State.SameOutside [.power] s u := s.markSampled_frame i
  refine ⟨fun off => exec_inputSample_off_clock (off ∘ clock_iff.1), fun c keeps => ?_, fun c t => ?_, fun c t three => ?_,
    fun c t aux unestablished => ?_, fun c t established turn => ?_⟩
  · have held (completes : sampleTakes filter x.pin (nextRun x.samples level) = true) : x.pin = some level :=
      by_contra fun new => keeps (takes_iff.2 ⟨new, completes⟩)
    rw [sampled c, show run = some (nextRun x.samples level) from congrArg some run_eq.symm]
    exact congrArg Host.Outcome.next (State.sampleInput_of_keeps (s := u) held)
  · obtain ⟨frame, raises, inputs⟩ := u.levelTaken_frame i level { level := level, count := count }
    refine ⟨_, taken c t, inputs, frame .power (by decide), fun same => ?_,
      (marked.mono (by decide)).trans (frame.mono (by decide)), .trans (.of_events rfl) raises⟩
    have params : (u.levelTaken i level { level := level, count := count }).params = v.params :=
      State.params_congr (frame .table (by decide))
    exact if_pos (.inl ((State.inputActive_congr params inputs i).symm.trans same))
  · rw [taken c t, exec_inputChange (s := u) released (takes_iff.1 t).1, State.inputChanged_eq_levelTaken, three]
  · rw [taken c t]
    exact congrArg Host.Outcome.next (if_pos (.inr ⟨aux, unestablished⟩))
  · rw [taken c t]
    refine congrArg Host.Outcome.next (if_neg ?_)
    rintro (same | ⟨aux, unestablished⟩)
    · exact turn same
    · exact established.elim (· aux) (· unestablished)

end Sys2Proof.Machine
end

section
/-! SUPPORT. The Lamp Generator: the expiry of the local step timer and the step of the pattern shown (R186, R187); and the
obligation about them. -/

namespace Sys2Proof.Machine

theorem exec_localStepTimerExpiry_of_runOut {s : State} (released : s.released = true)
    (out : timerRunOut s.lamp.stepTimer = true) : exec .localStepTimerExpiry s = .next s.expireStepTimer := by
  rw [show exec .localStepTimerExpiry s = execLocalStepTimerExpiry s from rfl, execLocalStepTimerExpiry,
    if_pos ⟨released, out⟩]

theorem exec_localStepTimerExpiry_of_not_runOut {s : State} (out : ¬timerRunOut s.lamp.stepTimer = true) :
    exec .localStepTimerExpiry s = .next s := by
  rw [show exec .localStepTimerExpiry s = execLocalStepTimerExpiry s from rfl, execLocalStepTimerExpiry,
    if_neg fun h => out h.2]

/-- A released node shows the step of its pattern (R186). -/
theorem State.lampOn_of_pattern {s : State} {x : LampPattern} (released : s.released = true)
    (pattern : s.lampPattern = some x) : s.lampOn = LampPattern.lit x s.lamp.stepCount := by
  rw [State.lampOn, pattern, released]
  rfl

/-- Settles O42: the expiry by the timer's time left, and the pattern by the node state and the sector. -/
theorem lampStepsAndShows : Obligations.LampStepsAndShows := by
  refine ⟨fun s stopped => ?_, fun s node => ?_, fun x s released timer => ⟨fun left => ?_, fun out => ?_⟩,
    fun s x released shows => State.lampOn_of_pattern released ?_⟩
  · exact exec_localStepTimerExpiry_of_not_runOut (by simp [stopped, timerRunOut])
  · simp [State.lampOn, State.lampPattern, node]
  · exact exec_localStepTimerExpiry_of_not_runOut (by simpa [timer, timerRunOut] using left)
  · exact exec_localStepTimerExpiry_of_runOut released ((timerRunOut_iff _).2 ⟨x, timer, out⟩)
  · rw [State.lampPattern]
    obtain ⟨node, inLamp, rfl⟩ | ⟨node, offLamp, rfl⟩ | ⟨node | node | node, rfl⟩ | ⟨node | node, rfl⟩ := shows
    · simp only [node, inLamp, if_true]
    · simp only [node, offLamp, Bool.false_eq_true, if_false]
    all_goals simp only [node]

end Sys2Proof.Machine
end

section
/-! SUPPORT. What the commands of the supply and of RESETn leave (R189 to R191): the blocks and the line at reset, the
outputs at rest, the part held or released; every law at reset; and the obligations about them. -/

namespace Sys2Proof.Machine

/-! ## A state at reset: every law holds, the outputs rest -/

theorem BankView.atReset_lawful : BankView.atReset.Lawful := ⟨rfl, rfl, nofun⟩

theorem BankView.atReset_inRange : BankView.atReset.InRange := ⟨Profile.default_inRange, Profile.default_inRange⟩

/-- Whatever the supply and the straps, a reset of every block and of the Crossing Table leaves a lawful state. -/
theorem State.BlocksAtReset.lawful {s : State} (blocks : s.BlocksAtReset) (table : s.TableAtReset) : s.Lawful := by
  have still : s.drive.Still := blocks.still
  have demand : s.DemandLaw := blocks.demandLaw
  obtain ⟨⟨-, -, -, -, -, -, miss, -⟩, ⟨ceiling, -⟩, ⟨node, -, trip, -⟩, -,
    ⟨measurement, -, fresh, valid, theta, hold⟩, -⟩ := blocks
  have tripLaw : s.TripLaw := .of_no_trip (by simp [node]) trip
  have tableLaw : s.TableLaw := by
    rw [State.tableLaw_iff_banks, table.banks]
    exact BankView.atReset_lawful
  have rangeLaw : s.RangeLaw := by
    rw [State.rangeLaw_iff_banks, table.banks]
    exact BankView.atReset_inRange
  exact ⟨demand, by simp [State.CeilingLaw, ceiling], tripLaw, State.driveLaw_stageActs.still still,
    State.restLaw_of_still still, State.readyLaw_driveActs.still still, by simp [State.HoldCountLaw, hold],
    fun _ => ⟨measurement, valid, fresh, theta, hold⟩, ⟨by simp [miss], fun _ => miss⟩, tableLaw, rangeLaw⟩

/-- The state before power-up has every block at reset (log 1). -/
theorem State.resetBlocks_reset : State.reset.resetBlocks false = State.reset := rfl

/-- Settles O60: every block of the state before power-up is at reset, and a state at reset is lawful. -/
theorem resetIsLawful : Obligations.ResetIsLawful := by
  rw [Obligations.ResetIsLawful, ← State.resetBlocks_reset]
  exact (State.resetBlocks_blocksAtReset _ _).lawful (State.resetBlocks_tableAtReset _)

/-- Of the supply and the straps the reset values depend on the latched index alone (R43). -/
theorem State.BlocksAtReset.withPower {s : State} (blocks : s.BlocksAtReset) {x : PowerBlock}
    (index : x.index = s.power.index) : (s.withPower x).BlocksAtReset := by
  obtain ⟨line, slot, ⟨node, ctrl⟩, rest⟩ := blocks
  refine ⟨line, slot, ⟨?_, ctrl⟩, rest⟩
  rw [State.withPower_power, State.withPower_ctrl, index, node]

/-- While the part is held, with the line at reset, every output rests (R21, R189). -/
theorem State.LineAtReset.outputsHeld {s : State} (line : s.LineAtReset) (held : s.released = false) :
    s.OutputsHeld := by
  obtain ⟨-, -, inner, outer, -⟩ := line
  refine ⟨?_, ?_, ?_, ?_, ?_, ?_⟩
  · simp [State.driveRun, held]
  · simp [State.rateRefPulse, held]
  · unfold State.lampOn
    split
    · rfl
    · simp [held]
  · simp [State.driveDir, held]
  · rw [inner, TxBuffer.bits]
  · rw [outer, TxBuffer.bits]

/-! ## The commands of the supply and of RESETn (R189, R191) -/

theorem exec_powerOnReset_of_low {s : State} (low : s.power.supplyOk = false) :
    exec .powerOnReset s = .next s.supplyRises := by
  rw [show exec .powerOnReset s = execPowerOnReset s from rfl, execPowerOnReset, if_neg (by simp [low])]

theorem exec_supplyLoss_of_good {s : State} (good : s.power.supplyOk = true) :
    exec .supplyLoss s = .next s.supplyFalls := by
  rw [show exec .supplyLoss s = execSupplyLoss s from rfl, execSupplyLoss, if_pos good]

theorem exec_initialisationEnd_of_initialising {s : State} (initialising : s.power.initialising = true)
    (index : IndexStraps) (role : StrapPin) :
    exec (.initialisationEnd index role) s = .next (s.finishInitialisation index role) := by
  rw [show exec (.initialisationEnd index role) s = execInitialisationEnd index role s from rfl,
    execInitialisationEnd, if_pos initialising]

theorem exec_pinReset (s : State) :
    exec .pinReset s = .next ((s.resetBlocks false).withPower { s.power with resetLow := true }) := rfl

theorem exec_pinResetRelease_of_low {s : State} (low : s.power.resetLow = true) :
    exec .pinResetRelease s =
      .next (s.withPower (PowerBlock.restartReference { s.power with resetLow := false })) := by
  rw [show exec .pinResetRelease s = execPinResetRelease s from rfl, execPinResetRelease, if_pos low]

theorem State.supplyRises_held (s : State) : s.supplyRises.released = false := by
  simp [State.supplyRises, State.released, PowerBlock.restartReference]

theorem State.supplyFalls_held (s : State) : s.supplyFalls.released = false := by
  simp [State.supplyFalls, State.released, PowerBlock.restartReference]

theorem State.resetLow_held {s : State} (low : s.power.resetLow = true) : s.released = false := by
  simp [State.released, low]

theorem State.resetBlocks_lineAtReset (s : State) (keep : Bool) : (s.resetBlocks keep).LineAtReset :=
  (s.resetBlocks_blocksAtReset keep).1

/-- Settles O4: RESETn low resets by `resetBlocks`, and its release changes the level and the reference alone. -/
theorem pinResetAndRelease : Obligations.PinResetAndRelease := by
  refine ⟨fun s => ?_, fun s low => ?_⟩
  · have line : ((s.resetBlocks false).withPower { s.power with resetLow := true }).LineAtReset :=
      s.resetBlocks_lineAtReset false
    exact ⟨_, exec_pinReset s, rfl, (s.resetBlocks_blocksAtReset false).withPower rfl, s.resetBlocks_tableAtReset,
      line.outputsHeld (State.resetLow_held rfl), rfl⟩
  · exact ⟨_, exec_pinResetRelease_of_low low, rfl, by simp [State.released, PowerBlock.restartReference]⟩

/-! ## Commands while the part is held (log 2) -/

/-- A command whose condition fails leaves the state. -/
theorem next_ite_of_not {p : Prop} [Decidable p] (s t : State) (h : ¬p) :
    (.next (if p then t else s) : Host.Outcome State Fault Refusal) = .next s := by
  rw [if_neg h]

theorem State.stagesRun_of_held {s : State} (held : s.released = false) : s.stagesRun = false := by
  simp [State.stagesRun, held]

theorem State.jointSampled_of_held {s : State} (held : s.released = false) : s.jointSampled = false := by
  simp [State.jointSampled, held]

theorem State.serveCommand_of_held {s : State} (held : s.released = false) (op : Byte) (q : Request) :
    s.serveCommand op q = s := by
  simp [State.serveCommand, State.stagesRun_of_held held]

/-- A held part takes no frame, serves no record, samples no input and lets no timer expire: each such command asks for
the release first. -/
theorem exec_of_held {c : Instr} {s : State} (held : s.released = false) (rise : c ≠ .powerOnReset)
    (fall : c ≠ .supplyLoss) (low : c ≠ .pinReset) (high : c ≠ .pinResetRelease)
    (latch : ∀ index role, c ≠ .initialisationEnd index role) : exec c s = .next s := by
  have serve (op : Byte) (q : Request) : (.next (s.serveCommand op q) : Host.Outcome State Fault Refusal) = .next s :=
    congrArg _ (s.serveCommand_of_held held op q)
  cases c
  case powerOnReset => exact absurd rfl rise
  case supplyLoss => exact absurd rfl fall
  case pinReset => exact absurd rfl low
  case pinResetRelease => exact absurd rfl high
  case initialisationEnd index role => exact absurd rfl (latch index role)
  case readParam | writeParam | readEntry | writeEntry | trimEntries | stageFromActive | commit | setEvents | readLive
      | lineReset =>
    exact serve _ _
  case unknownOp op q =>
    rw [show exec (.unknownOp op q) s = execUnknownOp op q s from rfl, execUnknownOp, s.serveCommand_of_held held,
      ite_self]
  case frameArrival | clearSet | driveReset => exact next_ite_of_not _ _ (by simp [State.stagesRun_of_held held])
  case jointMeasurementStart | jointFallingEdge | jointReadingComplete =>
    exact next_ite_of_not _ _ (by simp [State.jointSampled_of_held held])
  all_goals exact next_ite_of_not _ _ (by simp [held])

/-- Settles O3: both turns of SUPPLY_OK reset by `resetBlocks` and leave the part held, and a held part does nothing
else. -/
theorem heldResetRestsOutputs : Obligations.HeldResetRestsOutputs := by
  refine ⟨⟨fun s low => ?_, fun s good => ?_⟩, fun _ _ => exec_of_held⟩
  · have line : s.supplyRises.LineAtReset := s.resetBlocks_lineAtReset false
    exact ⟨_, exec_powerOnReset_of_low low, rfl, s.supplyRises_held, line.outputsHeld s.supplyRises_held, rfl⟩
  · have line : s.supplyFalls.LineAtReset := s.resetBlocks_lineAtReset false
    exact ⟨_, exec_supplyLoss_of_good good, rfl, s.supplyFalls_held, line.outputsHeld s.supplyFalls_held, line, rfl⟩

end Sys2Proof.Machine
end

section
/-! SUPPORT. The latched straps (R189, R190): what INITIALISATION_END latches, and that no other command changes them;
and the obligation about them. -/

namespace Sys2Proof.Machine

/-! ## The levels of the straps (R190) -/

/-- A strap counts in the index exactly when it is tied high. -/
theorem StrapPin.bit_reads (x : StrapPin) :
    Level.bit (StrapPin.reads x) = if x = .tied .high then 1 else 0 := by
  rcases x with (_ | _) | _ <;> rfl

theorem StrapPin.role_eq (x : StrapPin) : StrapPin.role x = if x = .tied .high then .endNode else .mid := by
  rcases x with (_ | _) | _ <;> rfl

/-! ## The straps and the queue through a command -/

/-- The latched index and role and the queue are the same. -/
structure State.SameStraps (s t : State) : Prop where
  index : t.power.index = s.power.index
  role : t.power.role = s.power.role
  pending : t.pending = s.pending

theorem State.SameStraps.refl (s : State) : s.SameStraps s := ⟨rfl, rfl, rfl⟩

theorem State.SameStraps.of_power {s t : State} (power : t.power = s.power) (pending : t.pending = s.pending) :
    s.SameStraps t :=
  ⟨by rw [power], by rw [power], pending⟩

/-- A command that acts on a condition keeps the straps when its act does. -/
theorem State.SameStraps.ite {s t : State} {p : Prop} [Decidable p] (h : s.SameStraps t) :
    s.SameStraps (if p then t else s) := by
  split
  · exact h
  · exact .refl s

theorem State.serveCommand_sameStraps (s : State) (op : Byte) (q : Request) : s.SameStraps (s.serveCommand op q) := by
  have frame := s.serve_frame (recordOf op q)
  exact .ite (.of_power (frame .power (by decide)) (frame .pending (by decide)))

theorem execInboundTake_sameStraps {s t : State} (h : execInboundTake s = .next t) : s.SameStraps t := by
  obtain rfl := Host.Outcome.next.inj h
  refine .ite ?_
  split
  · exact .of_power (by simp) (by simp)
  · exact .refl s
  · exact .refl s

theorem execOutboundProcessing_sameStraps {s t : State} (h : execOutboundProcessing s = .next t) :
    s.SameStraps t := by
  obtain rfl := Host.Outcome.next.inj h
  refine .ite ?_
  split
  · next f _ =>
    obtain ⟨-, -, -, power, pending⟩ := s.processed_records f
    exact .of_power power pending
  · exact .refl s
  · exact .refl s

theorem execLineResetEffect_sameStraps {s t : State} (h : execLineResetEffect s = .next t) : s.SameStraps t := by
  obtain rfl := Host.Outcome.next.inj h
  refine .ite ?_
  split
  · exact .refl s
  · exact .of_power rfl rfl

/-- No command but INITIALISATION_END writes the latched index or role: a reset keeps both, the supply, RESETn, a tick
and an input sample write other parts of their block, and no other command reaches it. -/
theorem exec_sameStraps {c : Instr} {s t : State} (latch : ∀ index role, c ≠ .initialisationEnd index role)
    (h : exec c s = .next t) : s.SameStraps t := by
  cases c
  case initialisationEnd index role => exact absurd rfl (latch index role)
  case inboundTake => exact execInboundTake_sameStraps h
  case outboundProcessing => exact execOutboundProcessing_sameStraps h
  case lineResetEffect => exact execLineResetEffect_sameStraps h
  all_goals obtain rfl := Host.Outcome.next.inj h
  case powerOnReset =>
    split
    · exact .refl s
    · exact ⟨rfl, rfl, rfl⟩
  case supplyLoss => exact .ite ⟨rfl, rfl, rfl⟩
  case pinReset => exact ⟨rfl, rfl, rfl⟩
  case pinResetRelease => exact .ite ⟨rfl, rfl, rfl⟩
  case readParam | writeParam | readEntry | writeEntry | trimEntries | stageFromActive | commit | setEvents | readLive
      | lineReset =>
    exact s.serveCommand_sameStraps _ _
  case unknownOp =>
    split
    · exact .refl s
    · exact s.serveCommand_sameStraps _ _
  case wheelTick => exact .ite ⟨by simp [State.tickReference], by simp [State.tickReference], by simp⟩
  case inputSample => exact .ite ⟨by simp [State.markSampled], by simp [State.markSampled], by simp⟩
  all_goals exact .ite (.of_power (by simp) (by simp))

theorem exec_initialisationEnd_pending {index : IndexStraps} {role : StrapPin} {s t : State}
    (h : exec (.initialisationEnd index role) s = .next t) : t.pending = s.pending := by
  obtain rfl := Host.Outcome.next.inj h
  split <;> rfl

theorem exec_pending {c : Instr} {s t : State} (h : exec c s = .next t) : t.pending = s.pending := by
  by_cases latch : ∃ index role, c = .initialisationEnd index role
  · obtain ⟨index, role, rfl⟩ := latch
    exact exec_initialisationEnd_pending h
  · exact (exec_sameStraps (fun index role e => latch ⟨index, role, e⟩) h).pending

/-- No command stops the machine. -/
theorem exec_completes (c : Instr) (s : State) : ∃ t, exec c s = .next t := by
  cases c <;> exact ⟨_, rfl⟩

/-- Settles O2: every command but INITIALISATION_END keeps the straps, and that one latches what they read. -/
theorem onlyInitialisationChangesStraps : Obligations.OnlyInitialisationChangesStraps := by
  refine ⟨fun c s => ?_, ?_⟩
  · obtain ⟨t, next⟩ := exec_completes c s
    refine ⟨t, next, exec_pending next, fun latch => ?_⟩
    have same := exec_sameStraps latch next
    exact ⟨same.index, same.role⟩
  · intro index role s initialising one
    have number : (IndexStraps.number index).toNat = 16 * one index.idx4 + 8 * one index.idx3 + 4 * one index.idx2
        + 2 * one index.idx1 + one index.idx0 := by
      simp only [IndexStraps.number_toNat, StrapPin.bit_reads, one]
    exact ⟨_, exec_initialisationEnd_of_initialising initialising index role, number, StrapPin.role_eq role, rfl,
      State.resetBlocks_blocksAtReset _ false, State.resetBlocks_tableAtReset _, rfl⟩

end Sys2Proof.Machine
end

section
/-! SUPPORT. The queue (log 5): the step that idles on an empty queue, beside `step_cons`; and the obligation about the
two. -/

namespace Sys2Proof.Machine

theorem step_nil (s : State) (h : s.pending = []) : step s = .next s := by
  unfold step
  rw [h]

/-- Settles O1: the queue has a front command, or it is empty and the step idles. -/
theorem stepRunsFrontCommand : Obligations.StepRunsFrontCommand :=
  ⟨fun c rest s front => step_cons s c rest front, step_nil⟩

end Sys2Proof.Machine
end
